-- ==== Sys2Proof/Word.lean ====
section
/-! DEFINITION. The machine words of the block: bytes, sequence numbers and command words. -/

namespace Sys2Proof

/-- A frame or message byte. -/
abbrev Byte := BitVec 8

/-- A sequence number; its addition is modulo 128 (00_scope.md R4, R8). -/
abbrev Seq := BitVec 7

/-- A command word (30_encoding.md R100). -/
abbrev CommandWord := BitVec 16

/-- An LSSU status code (30_encoding.md R120). -/
abbrev LssuStatus := BitVec 3

end Sys2Proof
end

