-- ==== Sys2Proof/Config.lean ====
section
/-! DEFINITION. What an implementation fixes: the constants of 00_scope.md R4, the parameters of R5 and the
configuration inputs of R6. The parameters and inputs are constants with no body, so nothing can be proved about
which value they have. -/

namespace Sys2Proof.Config

/-! ### The constants of R4 -/

/-- SEQ_RESET (00_scope.md R4). -/
def seqReset : Seq := 127

/-- LI_MAX: 63 means "63 or more" (00_scope.md R4). -/
def liMax : Nat := 63

/-- TI_NORMAL (00_scope.md R4). -/
def tiNormal : Nat := 4

/-- TI_EMERGENCY (00_scope.md R4). -/
def tiEmergency : Nat := 1

/-- T_MONITOR (00_scope.md R4; 90_conflicts.md C4: 16 in both rate classes). -/
def tMonitor : Nat := 16

/-- D_GOOD: consecutive good frames per monitor decrement (00_scope.md R4). -/
def dGood : Nat := 256

/-- PROVING_TRIES (00_scope.md R4). -/
def provingTries : Nat := 5

/-- OCTET_COUNT_BITS (00_scope.md R4). -/
def octetCountBits : Nat := 128

/-- CONGESTION_LIMIT (00_scope.md R4). -/
def congestionLimit : Nat := 128

/-- FLAG, the HDLC flag (00_scope.md R4). -/
def flag : Byte := 0x7E

/-- STUFF_RUN (00_scope.md R4). -/
def stuffRun : Nat := 5

/-- BITRATE_64K_MIN (00_scope.md R4). -/
def bitrate64kMin : Nat := 64000

/-! ### The parameters of R5 -/

/-- A timer duration for each rate class (45_timers.md R373), in TIMER_TICK operations. -/
structure PerRate where
  /-- the duration at 64 kbit/s and above -/
  k64 : Nat
  /-- the duration below that -/
  k4_8 : Nat
deriving DecidableEq, Repr, Inhabited

/-- The argument CRC16: the default that 92_eei_decisions.md D15 decides, or any other total function (00_scope.md
R5; log entry 7). -/
inductive Crc16 where
  /-- the default, CRC-16/X-25 (41_framer_tx.md R244) -/
  | x25
  /-- the function that the model is given in its place -/
  | given
deriving DecidableEq, Repr, Inhabited

/-- The function given for CRC16 when it is not the default: any total function from byte strings to 16-bit values
(00_scope.md R5; log entry 7). -/
opaque givenCrc16 : List Byte → BitVec 16

/-- The parameters a model takes as arguments (00_scope.md R5). -/
structure Params where
  /-- T1_DUR -/
  t1Dur : PerRate
  /-- T2_DUR -/
  t2Dur : PerRate
  /-- T3_DUR -/
  t3Dur : PerRate
  /-- T4N_DUR: T4 without emergency -/
  t4nDur : PerRate
  /-- T4E_DUR: T4 with emergency -/
  t4eDur : PerRate
  /-- RX_MAX_BYTES -/
  rxMaxBytes : Nat
  /-- TX_MAX_DATA -/
  txMaxData : Nat
  /-- QUEUE_DEPTH -/
  queueDepth : Nat
  /-- FLAG_LIMIT; 0 disables the check -/
  flagLimit : Nat
  /-- CRC16 -/
  crc16 : Crc16
deriving DecidableEq, Repr, Inhabited

/-- Both durations raised to at least 1. -/
def PerRate.atLeastOne (p : PerRate) : PerRate := ⟨max p.k64 1, max p.k4_8 1⟩

/-- The parameters brought within the constraints of R5; parameters that already meet them are unchanged. -/
def Params.constrained (p : Params) : Params where
  t1Dur := p.t1Dur.atLeastOne
  t2Dur := p.t2Dur.atLeastOne
  t3Dur := p.t3Dur.atLeastOne
  t4nDur := p.t4nDur.atLeastOne
  t4eDur := p.t4eDur.atLeastOne
  rxMaxBytes := max p.rxMaxBytes 5
  txMaxData := max p.txMaxData 2
  queueDepth := max p.queueDepth 1
  flagLimit := p.flagLimit
  crc16 := p.crc16

/-- Free parameter values: no value of the source or of the model (log entry 5). -/
opaque freeParams : Params

/-- The parameters of this block: any that meet the constraints of R5 (log entry 5). -/
def params : Params := freeParams.constrained

/-! ### The configuration inputs of R6 -/

/-- The BITRATE input, bit/s (00_scope.md R6; log entry 6). -/
opaque bitrate : Nat

/-- The IGNORE_MONITOR input (00_scope.md R6; log entry 6). -/
opaque ignoreMonitorInput : Bool

end Sys2Proof.Config
end

