-- ==== Sys2Proof/Syntax.lean ====
section
/-! DEFINITION. The operations of the block: one constructor of Instr per row of spec/opcode_table.json
(30_encoding.md R100 to R105). -/

namespace Sys2Proof

/-- The event argument record (30_encoding.md R105). -/
structure EventArg where
  /-- backward sequence number -/
  bsn : Seq
  /-- backward indicator bit -/
  bib : Bool
  /-- forward sequence number -/
  fsn : Seq
  /-- forward indicator bit -/
  fib : Bool
  /-- service indicator octet -/
  sio : Byte
  /-- user data -/
  data : List Byte
deriving DecidableEq, Repr, Inhabited

/-- The empty record that an event without arguments is given (40_fsm.md R144). -/
def EventArg.empty : EventArg := ⟨0, false, 0, false, 0, []⟩

/-- One operation as the host presents it: the command word and its side argument (30_encoding.md R100, R101). -/
structure Command where
  /-- the 16-bit command word -/
  word : CommandWord
  /-- the side argument of an EVENT -/
  arg : EventArg
  /-- the side argument of an ENQUEUE -/
  data : List Byte
deriving DecidableEq, Repr, Inhabited

/-- A command word with an empty side argument. -/
def Command.ofWord (w : CommandWord) : Command := ⟨w, EventArg.empty, []⟩

/-- The operations, one constructor per row of the opcode table. The side argument of R101 is an operand
(40_fsm.md R140, 43_sequencing.md R310); an event that ignores its argument record has none (R105, log entry 8). -/
inductive Instr where
  /-- NOP -/
  | nop
  /-- RX_BIT with the received bit -/
  | rxBit (b : Bool)
  /-- TX_BIT -/
  | txBit
  /-- TIMER_TICK -/
  | timerTick
  /-- EVENT.POWER_ON -/
  | eventPowerOn
  /-- EVENT.START -/
  | eventStart
  /-- EVENT.STOP -/
  | eventStop
  /-- EVENT.EMERGENCY -/
  | eventEmergency
  /-- EVENT.EMERGENCY_CEASES -/
  | eventEmergencyCeases
  /-- EVENT.LOCAL_PROCESSOR_OUTAGE -/
  | eventLocalProcessorOutage
  /-- EVENT.LOCAL_PROCESSOR_RECOVERED -/
  | eventLocalProcessorRecovered
  /-- EVENT.RESERVED_7 -/
  | eventReserved7
  /-- EVENT.SIO_RX -/
  | eventSioRx
  /-- EVENT.SIN_RX -/
  | eventSinRx
  /-- EVENT.SIE_RX -/
  | eventSieRx
  /-- EVENT.SIOS_RX -/
  | eventSiosRx
  /-- EVENT.SIPO_RX -/
  | eventSipoRx
  /-- EVENT.SIB_RX -/
  | eventSibRx
  /-- EVENT.RESERVED_14 -/
  | eventReserved14
  /-- EVENT.RESERVED_15 -/
  | eventReserved15
  /-- EVENT.FISU_RX -/
  | eventFisuRx (arg : EventArg)
  /-- EVENT.MSU_RX -/
  | eventMsuRx (arg : EventArg)
  /-- EVENT.CORRECT_SU -/
  | eventCorrectSu
  /-- EVENT.BAD_FRAME -/
  | eventBadFrame
  /-- EVENT.OCTET_COUNT_ERR -/
  | eventOctetCountErr
  /-- EVENT.ABORT_PROVING -/
  | eventAbortProving
  /-- EVENT.LINK_FAILURE -/
  | eventLinkFailure
  /-- EVENT.T1_TIMEOUT -/
  | eventT1Timeout
  /-- EVENT.T2_TIMEOUT -/
  | eventT2Timeout
  /-- EVENT.T3_TIMEOUT -/
  | eventT3Timeout
  /-- EVENT.T4_TIMEOUT -/
  | eventT4Timeout
  /-- EVENT.RESERVED_27 -/
  | eventReserved27
  /-- EVENT.RESERVED_28 -/
  | eventReserved28
  /-- EVENT.RESERVED_29 -/
  | eventReserved29
  /-- EVENT.RESERVED_30 -/
  | eventReserved30
  /-- EVENT.RESERVED_31 -/
  | eventReserved31
  /-- ENQUEUE with the service indicator octet and the data bytes -/
  | enqueue (sio : Byte) (data : List Byte)
  /-- RESERVED_OP_6 with any operand -/
  | reservedOp6 (operand : BitVec 12)
  /-- RESERVED_OP_7 with any operand -/
  | reservedOp7 (operand : BitVec 12)
  /-- RESERVED_OP_8 with any operand -/
  | reservedOp8 (operand : BitVec 12)
  /-- RESERVED_OP_9 with any operand -/
  | reservedOp9 (operand : BitVec 12)
  /-- RESERVED_OP_A with any operand -/
  | reservedOpA (operand : BitVec 12)
  /-- RESERVED_OP_B with any operand -/
  | reservedOpB (operand : BitVec 12)
  /-- RESERVED_OP_C with any operand -/
  | reservedOpC (operand : BitVec 12)
  /-- RESERVED_OP_D with any operand -/
  | reservedOpD (operand : BitVec 12)
  /-- RESERVED_OP_E with any operand -/
  | reservedOpE (operand : BitVec 12)
  /-- RESERVED_OP_F with any operand -/
  | reservedOpF (operand : BitVec 12)
deriving DecidableEq, Repr

/-- The events of the FSM, one for each event code (30_encoding.md R104). -/
inductive Event where
  /-- POWER_ON -/
  | powerOn
  /-- START -/
  | start
  /-- STOP -/
  | stop
  /-- EMERGENCY -/
  | emergency
  /-- EMERGENCY_CEASES -/
  | emergencyCeases
  /-- LOCAL_PROCESSOR_OUTAGE -/
  | localProcessorOutage
  /-- LOCAL_PROCESSOR_RECOVERED -/
  | localProcessorRecovered
  /-- RESERVED_7 -/
  | reserved7
  /-- SIO_RX -/
  | sioRx
  /-- SIN_RX -/
  | sinRx
  /-- SIE_RX -/
  | sieRx
  /-- SIOS_RX -/
  | siosRx
  /-- SIPO_RX -/
  | sipoRx
  /-- SIB_RX -/
  | sibRx
  /-- RESERVED_14 -/
  | reserved14
  /-- RESERVED_15 -/
  | reserved15
  /-- FISU_RX -/
  | fisuRx
  /-- MSU_RX -/
  | msuRx
  /-- CORRECT_SU -/
  | correctSu
  /-- BAD_FRAME -/
  | badFrame
  /-- OCTET_COUNT_ERR -/
  | octetCountErr
  /-- ABORT_PROVING -/
  | abortProving
  /-- LINK_FAILURE -/
  | linkFailure
  /-- T1_TIMEOUT -/
  | t1Timeout
  /-- T2_TIMEOUT -/
  | t2Timeout
  /-- T3_TIMEOUT -/
  | t3Timeout
  /-- T4_TIMEOUT -/
  | t4Timeout
  /-- RESERVED_27 -/
  | reserved27
  /-- RESERVED_28 -/
  | reserved28
  /-- RESERVED_29 -/
  | reserved29
  /-- RESERVED_30 -/
  | reserved30
  /-- RESERVED_31 -/
  | reserved31
deriving DecidableEq, Repr

end Sys2Proof
end

