-- ==== Sys2Proof/WellFormed.lean ====
section
/-! DEFINITION. Which commands and parameters are well formed. Every term of Instr is: its operands have exactly the
widths of 30_encoding.md R101 and R105. -/

namespace Sys2Proof

/-- The words that take an event argument record: EVENT with FISU_RX or MSU_RX (30_encoding.md R105). -/
def Command.takesArg (c : Command) : Bool := c.word == 0x4010 || c.word == 0x4011

/-- The words that take data bytes: ENQUEUE (30_encoding.md R101). -/
def Command.takesData (c : Command) : Bool := c.word &&& 0xFF00 == 0x5000

/-- A command is well formed when it comes with no side argument that R101 and R105 do not give its word. -/
def Command.wf (c : Command) : Bool :=
  (c.takesArg || c.arg == EventArg.empty) && (c.takesData || c.data.isEmpty)

/-- Both durations are at least 1 (00_scope.md R5). -/
def Config.PerRate.wf (p : Config.PerRate) : Bool := 1 ≤ p.k64 && 1 ≤ p.k4_8

/-- The constraints of 00_scope.md R5. -/
def Config.Params.wf (p : Config.Params) : Bool :=
  p.t1Dur.wf && p.t2Dur.wf && p.t3Dur.wf && p.t4nDur.wf && p.t4eDur.wf &&
    5 ≤ p.rxMaxBytes && 2 ≤ p.txMaxData && 1 ≤ p.queueDepth

end Sys2Proof
end

