-- ==== Sys2Proof/Decode.lean ====
section
/-! DEFINITION. The decoder and the encoder of command words (30_encoding.md R100 to R104). -/

namespace Sys2Proof

/-- Why the decoder refuses a command word. -/
inductive DecodeError where
  /-- an operation 0x0 to 0x5 with a 1 in an operand bit that R101 requires to be 0 (R103); the step answers
  ILLEGAL, so this refusal is safe -/
  | reservedOperandBits (op : BitVec 4)
deriving DecidableEq, Repr

/-- The field `op`, bits 15:12 (R100). -/
def opField (w : CommandWord) : BitVec 4 := w.extractLsb' 12 4

/-- The field `operand`, bits 11:0 (R100). -/
def operandField (w : CommandWord) : BitVec 12 := w.extractLsb' 0 12

/-- RX_BIT's operand `b = word[0]` (R101). -/
def bitField (w : CommandWord) : Bool := w.getLsbD 0

/-- EVENT's operand `ev = word[4:0]` (R101). -/
def eventField (w : CommandWord) : BitVec 5 := w.extractLsb' 0 5

/-- ENQUEUE's operand `sio = word[7:0]` (R101). -/
def sioField (w : CommandWord) : Byte := w.extractLsb' 0 8

/-- The operand bits that R101 requires to be 0, as a mask over the command word. -/
def reservedMask (op : BitVec 4) : CommandWord :=
  match op.toNat with
  | 0 => 0x0FFF
  | 1 => 0x0FFE
  | 2 => 0x0FFF
  | 3 => 0x0FFF
  | 4 => 0x0FE0
  | 5 => 0x0F00
  | _ => 0

/-- The EVENT operation of an event code (R104). -/
def decodeEvent (arg : EventArg) (ev : BitVec 5) : Instr :=
  match ev.toNat with
  | 0 => .eventPowerOn
  | 1 => .eventStart
  | 2 => .eventStop
  | 3 => .eventEmergency
  | 4 => .eventEmergencyCeases
  | 5 => .eventLocalProcessorOutage
  | 6 => .eventLocalProcessorRecovered
  | 7 => .eventReserved7
  | 8 => .eventSioRx
  | 9 => .eventSinRx
  | 10 => .eventSieRx
  | 11 => .eventSiosRx
  | 12 => .eventSipoRx
  | 13 => .eventSibRx
  | 14 => .eventReserved14
  | 15 => .eventReserved15
  | 16 => .eventFisuRx arg
  | 17 => .eventMsuRx arg
  | 18 => .eventCorrectSu
  | 19 => .eventBadFrame
  | 20 => .eventOctetCountErr
  | 21 => .eventAbortProving
  | 22 => .eventLinkFailure
  | 23 => .eventT1Timeout
  | 24 => .eventT2Timeout
  | 25 => .eventT3Timeout
  | 26 => .eventT4Timeout
  | 27 => .eventReserved27
  | 28 => .eventReserved28
  | 29 => .eventReserved29
  | 30 => .eventReserved30
  | _ => .eventReserved31

/-- The operation of a command whose reserved operand bits are 0 (R101). -/
def decodeOp (c : Command) : Instr :=
  match (opField c.word).toNat with
  | 0 => .nop
  | 1 => .rxBit (bitField c.word)
  | 2 => .txBit
  | 3 => .timerTick
  | 4 => decodeEvent c.arg (eventField c.word)
  | 5 => .enqueue (sioField c.word) c.data
  | 6 => .reservedOp6 (operandField c.word)
  | 7 => .reservedOp7 (operandField c.word)
  | 8 => .reservedOp8 (operandField c.word)
  | 9 => .reservedOp9 (operandField c.word)
  | 10 => .reservedOpA (operandField c.word)
  | 11 => .reservedOpB (operandField c.word)
  | 12 => .reservedOpC (operandField c.word)
  | 13 => .reservedOpD (operandField c.word)
  | 14 => .reservedOpE (operandField c.word)
  | _ => .reservedOpF (operandField c.word)

/-- The decoder: total on every command (R101, R103). A side argument that the operation does not read is dropped
(log entry 8). -/
def decode (c : Command) : Except DecodeError Instr :=
  if c.word &&& reservedMask (opField c.word) = 0 then .ok (decodeOp c)
  else .error (.reservedOperandBits (opField c.word))

/-- The command word of an operation, from the tables of R101 and R104. -/
def encodeWord : Instr → CommandWord
  | .nop => 0x0000
  | .rxBit b => 0x1000 ||| (BitVec.ofBool b).setWidth 16
  | .txBit => 0x2000
  | .timerTick => 0x3000
  | .eventPowerOn => 0x4000
  | .eventStart => 0x4001
  | .eventStop => 0x4002
  | .eventEmergency => 0x4003
  | .eventEmergencyCeases => 0x4004
  | .eventLocalProcessorOutage => 0x4005
  | .eventLocalProcessorRecovered => 0x4006
  | .eventReserved7 => 0x4007
  | .eventSioRx => 0x4008
  | .eventSinRx => 0x4009
  | .eventSieRx => 0x400A
  | .eventSiosRx => 0x400B
  | .eventSipoRx => 0x400C
  | .eventSibRx => 0x400D
  | .eventReserved14 => 0x400E
  | .eventReserved15 => 0x400F
  | .eventFisuRx _ => 0x4010
  | .eventMsuRx _ => 0x4011
  | .eventCorrectSu => 0x4012
  | .eventBadFrame => 0x4013
  | .eventOctetCountErr => 0x4014
  | .eventAbortProving => 0x4015
  | .eventLinkFailure => 0x4016
  | .eventT1Timeout => 0x4017
  | .eventT2Timeout => 0x4018
  | .eventT3Timeout => 0x4019
  | .eventT4Timeout => 0x401A
  | .eventReserved27 => 0x401B
  | .eventReserved28 => 0x401C
  | .eventReserved29 => 0x401D
  | .eventReserved30 => 0x401E
  | .eventReserved31 => 0x401F
  | .enqueue sio _ => 0x5000 ||| sio.setWidth 16
  | .reservedOp6 operand => 0x6000 ||| operand.setWidth 16
  | .reservedOp7 operand => 0x7000 ||| operand.setWidth 16
  | .reservedOp8 operand => 0x8000 ||| operand.setWidth 16
  | .reservedOp9 operand => 0x9000 ||| operand.setWidth 16
  | .reservedOpA operand => 0xA000 ||| operand.setWidth 16
  | .reservedOpB operand => 0xB000 ||| operand.setWidth 16
  | .reservedOpC operand => 0xC000 ||| operand.setWidth 16
  | .reservedOpD operand => 0xD000 ||| operand.setWidth 16
  | .reservedOpE operand => 0xE000 ||| operand.setWidth 16
  | .reservedOpF operand => 0xF000 ||| operand.setWidth 16

/-- The event argument record an operation is presented with (R101, R105). -/
def encodeArg : Instr → EventArg
  | .eventFisuRx arg => arg
  | .eventMsuRx arg => arg
  | _ => EventArg.empty

/-- The data bytes an operation is presented with (R101). -/
def encodeData : Instr → List Byte
  | .enqueue _ data => data
  | _ => []

/-- The encoder: the command word and side argument of an operation. -/
def encode (i : Instr) : Command := ⟨encodeWord i, encodeArg i, encodeData i⟩

/-- What the decoder reads from the low `nbits` bits of `w`, with an empty side argument, which the opcode table
gives no bits (log entry 9). -/
def decodeTableWord (nbits w : Nat) : Option Instr :=
  match decode (.ofWord (BitVec.ofNat 16 (w % 2 ^ nbits))) with
  | .ok i => some i
  | .error _ => none

end Sys2Proof
end

