-- ==== Sys2Proof/Machine/State.lean ====
section
/-! DEFINITION. The state record of 10_state.md (R20 to R59), the reasons a step can stop, and the state after
reset. -/

namespace Sys2Proof.Machine

open Sys2Proof.Config (Params)

/-- The FSM state register (10_state.md R21). -/
inductive LinkState where
  /-- POWER_OFF, POFF -/
  | powerOff
  /-- OUT_OF_SERVICE, OOS -/
  | outOfService
  /-- NOT_ALIGNED, NA -/
  | notAligned
  /-- ALIGNED, AL -/
  | aligned
  /-- PROVING, PR -/
  | proving
  /-- ALIGNED_READY, AR -/
  | alignedReady
  /-- ALIGNED_NOT_READY, ANR -/
  | alignedNotReady
  /-- IN_SERVICE, IS -/
  | inService
  /-- PROCESSOR_OUTAGE, PO -/
  | processorOutage
deriving DecidableEq, Repr

/-- The numeric code of a state (10_state.md R21). -/
def LinkState.code : LinkState → BitVec 4
  | .powerOff => 0
  | .outOfService => 1
  | .notAligned => 2
  | .aligned => 3
  | .proving => 4
  | .alignedReady => 5
  | .alignedNotReady => 6
  | .inService => 7
  | .processorOutage => 8

/-- The failure causes (60_exceptions.md R401). -/
inductive Cause where
  /-- cause 1 -/
  | alignmentTimeout
  /-- cause 2 -/
  | linkFailureLocal
  /-- cause 3 -/
  | linkFailureRemote
  /-- cause 4 -/
  | provingFailureLocal
  /-- cause 5 -/
  | provingFailureRemote
  /-- cause 6 -/
  | provingTimeout
deriving DecidableEq, Repr

/-- The number of a cause (60_exceptions.md R401). -/
def Cause.number : Cause → Nat
  | .alignmentTimeout => 1
  | .linkFailureLocal => 2
  | .linkFailureRemote => 3
  | .provingFailureLocal => 4
  | .provingFailureRemote => 5
  | .provingTimeout => 6

/-- An indication record, with the fields its kind reads (30_encoding.md R125). -/
inductive Indication where
  /-- IN_SERVICE, kind 0 -/
  | inService
  /-- OUT_OF_SERVICE(cause), kind 1 -/
  | outOfService (cause : Cause)
  /-- REMOTE_PROCESSOR_OUTAGE, kind 2 -/
  | remoteProcessorOutage
  /-- REMOTE_PROCESSOR_RECOVERED, kind 3 -/
  | remoteProcessorRecovered
  /-- DATA(sio, data), kind 4 -/
  | data (sio : Byte) (data : List Byte)
deriving DecidableEq, Repr

/-- The kind code of an indication (30_encoding.md R125). -/
def Indication.kind : Indication → Nat
  | .inService => 0
  | .outOfService _ => 1
  | .remoteProcessorOutage => 2
  | .remoteProcessorRecovered => 3
  | .data _ _ => 4

/-- What ENQUEUE answers (30_encoding.md R106). -/
inductive EnqCode where
  /-- ENQ(0) -/
  | accepted
  /-- ENQ(1): accepted and truncated -/
  | truncated
  /-- ENQ(2): rejected, the state is not IN_SERVICE -/
  | notInService
  /-- ENQ(3): rejected, the queue is full -/
  | queueFull
  /-- ENQ(4): rejected, the data is shorter than 2 bytes -/
  | tooShort
deriving DecidableEq, Repr

/-- The number of an ENQUEUE answer (30_encoding.md R106). -/
def EnqCode.number : EnqCode → Nat
  | .accepted => 0
  | .truncated => 1
  | .notInService => 2
  | .queueFull => 3
  | .tooShort => 4

/-- The response of an operation (30_encoding.md R106). -/
inductive Response where
  /-- OK: NOP, RX_BIT, TIMER_TICK -/
  | ok
  /-- BIT(b): TX_BIT -/
  | bit (b : Bool)
  /-- MATCHED: the event matched a row at the top level -/
  | matched
  /-- IGNORED: it matched none -/
  | ignored
  /-- ENQ(code) -/
  | enq (code : EnqCode)
  /-- ILLEGAL: the command word is illegal -/
  | illegal
deriving DecidableEq, Repr

/-- A retransmit queue entry (10_state.md R39). -/
structure Entry where
  /-- its own sequence number -/
  seq : Seq
  /-- service indicator octet -/
  sio : Byte
  /-- payload -/
  data : List Byte
  /-- whether select has returned it -/
  transmitted : Bool
deriving DecidableEq, Repr

/-- The four timers (10_state.md R40; 90_conflicts.md C1). -/
inductive TimerId where
  /-- T1 -/
  | t1
  /-- T2 -/
  | t2
  /-- T3 -/
  | t3
  /-- T4 -/
  | t4
deriving DecidableEq, Repr

/-- One single-shot timer: `t_armed[n]` and `t_count[n]` (10_state.md R40). -/
structure Timer where
  /-- `t_armed[n]` -/
  armed : Bool
  /-- `t_count[n]`, the remaining TIMER_TICK operations -/
  count : Nat
deriving DecidableEq, Repr

/-- What the transmitter is sending (10_state.md R41). -/
inductive TxPhase where
  /-- a flag -/
  | flag
  /-- frame bits -/
  | data
deriving DecidableEq, Repr

/-- The transmitter state (10_state.md R41). -/
structure TxState where
  /-- `tx_phase` -/
  phase : TxPhase
  /-- `tx_flag_idx`, index of the next flag bit -/
  flagIdx : Fin 8
  /-- `tx_have_frame`, a frame was built at the start of the current flag -/
  haveFrame : Bool
  /-- `tx_buf`, the frame being sent, CRC included -/
  buf : List Byte
  /-- `tx_len`, valid bytes in `tx_buf` -/
  len : Nat
  /-- `tx_pos`, index of the next frame bit -/
  pos : Nat
  /-- `tx_ones`, consecutive 1 bits sent since the last 0 of the frame -/
  ones : Nat
deriving DecidableEq, Repr

/-- The receiver state (10_state.md R42). -/
structure RxState where
  /-- `rx_sr`, the last eight bits, newest in bit 7 -/
  sr : Byte
  /-- `rx_in_frame`; false while hunting for a flag -/
  inFrame : Bool
  /-- `rx_nbits`, destuffed bits stored since the last flag -/
  nbits : Nat
  /-- `rx_bits`, those bits, first received first -/
  bits : List Bool
  /-- `rx_oc_active`, octet-counting mode -/
  ocActive : Bool
  /-- `rx_oc_bits`, bits counted in that mode since the last report or flag -/
  ocBits : Nat
  /-- `rx_flag_run`, consecutive empty frames -/
  flagRun : Nat
deriving DecidableEq, Repr

/-- The block state: the tuple of every element of 10_state.md R21 to R58, "and nothing else" (R20). -/
structure Block where
  /-- `state` (R21) -/
  state : LinkState
  /-- `tx_lssu`; none is NONE (R22) -/
  txLssu : Option LssuStatus
  /-- `local_emergency` (R23) -/
  localEmergency : Bool
  /-- `remote_emergency` (R24) -/
  remoteEmergency : Bool
  /-- `local_outage` (R25) -/
  localOutage : Bool
  /-- `remote_outage` (R26) -/
  remoteOutage : Bool
  /-- `tx_seq` (R27) -/
  txSeq : Seq
  /-- `fib` (R28) -/
  fib : Bool
  /-- `rx_seq` (R29) -/
  rxSeq : Seq
  /-- `bib` (R30) -/
  bib : Bool
  /-- `tx_queue_seq` (R31) -/
  txQueueSeq : Seq
  /-- `tx_nack` (R32) -/
  txNack : Bool
  /-- `further_proving` (R33) -/
  furtherProving : Bool
  /-- `proving_try` (R34) -/
  provingTry : Nat
  /-- `proving_errors` (R35) -/
  provingErrors : Nat
  /-- `monitor_errors` (R36) -/
  monitorErrors : Nat
  /-- `monitor_good` (R37) -/
  monitorGood : Nat
  /-- `queue`, head first (R38) -/
  queue : List Entry
  /-- timer T1 (R40) -/
  t1 : Timer
  /-- timer T2 (R40) -/
  t2 : Timer
  /-- timer T3 (R40) -/
  t3 : Timer
  /-- timer T4 (R40) -/
  t4 : Timer
  /-- the transmitter (R41) -/
  tx : TxState
  /-- the receiver (R42) -/
  rx : RxState
  /-- `ind_out`, oldest first (R58) -/
  indOut : List Indication
  /-- `RATE_64K` (R43) -/
  rate64k : Bool
  /-- `IGNORE_MONITOR` (R43) -/
  ignoreMonitor : Bool
deriving DecidableEq, Repr

/-- The block, and beside it what this model's step has no other place for: the arguments a model takes (00_scope.md
R5), the operations the host presents (R2) and the responses it is given (30_encoding.md R106). None of the three is
state of the block (log entries 1, 2, 5). -/
structure State extends Block where
  /-- the model's own: the parameters of 00_scope.md R5, constant (log entry 5) -/
  params : Params
  /-- the model's own: the operations the host has still to present, next first (log entry 1) -/
  cmds : List Command
  /-- the model's own: the responses given, oldest first (30_encoding.md R106; log entry 2) -/
  responses : List Response
deriving DecidableEq, Repr

/-- The faults of the machine: none. "the block has no fault that stops it" (93_implementation_defined.md; log
entry 14). -/
inductive Fault where
deriving DecidableEq, Repr

/-- The refusals of the machine. -/
inductive Refusal where
  /-- raised by an arm of exec whose instruction has no meaning yet; safe. No arm raises it. -/
  | notModelled (mnemonic : String)
deriving DecidableEq, Repr

/-! ### The LSSU status codes (30_encoding.md R120) -/

/-- SIO, out of alignment -/
def lssuSIO : LssuStatus := 0
/-- SIN, normal alignment -/
def lssuSIN : LssuStatus := 1
/-- SIE, emergency alignment -/
def lssuSIE : LssuStatus := 2
/-- SIOS, out of service -/
def lssuSIOS : LssuStatus := 3
/-- SIPO, processor outage -/
def lssuSIPO : LssuStatus := 4
/-- SIB, busy -/
def lssuSIB : LssuStatus := 5

/-- A disarmed timer (10_state.md R40: the count is 0 whenever the timer is not armed). -/
def Timer.off : Timer := ⟨false, 0⟩

/-- The transmitter after reset (10_state.md R59). -/
def TxState.reset : TxState := ⟨.flag, 0, false, [], 0, 0, 0⟩

/-- The receiver after reset: hunting (10_state.md R59). DESIGN CHOICE: the 0s of `rx_sr` count as received bits, as the
pseudocode of 42_framer_rx.md R270 has it, so a flag or an abort can be seen at the seventh bit after reset, which a
sentence of R271 excludes (log entry 22). -/
def RxState.reset : RxState := ⟨0x00, false, 0, [], false, 0, 0⟩

/-- The machine right after hardware reset (10_state.md R59, 70_reset_and_hazards.md R440). The configuration
inputs are sampled here (00_scope.md R6). -/
def State.reset : State where
  state := .powerOff
  txLssu := some lssuSIOS
  localEmergency := false
  remoteEmergency := false
  localOutage := false
  remoteOutage := false
  txSeq := Config.seqReset
  fib := true
  rxSeq := Config.seqReset
  bib := true
  txQueueSeq := Config.seqReset
  txNack := false
  furtherProving := false
  provingTry := 0
  provingErrors := 0
  monitorErrors := 0
  monitorGood := 0
  queue := []
  t1 := Timer.off
  t2 := Timer.off
  t3 := Timer.off
  t4 := Timer.off
  tx := TxState.reset
  rx := RxState.reset
  indOut := []
  rate64k := decide (Config.bitrate64kMin ≤ Config.bitrate)
  ignoreMonitor := Config.ignoreMonitorInput
  params := Config.params
  cmds := []
  responses := []

end Sys2Proof.Machine
end

