-- ==== Sys2Proof/Machine/Flags.lean ====
section
/-! DEFINITION. The conditions the rules test. The block has no condition flags (40_fsm.md, template: "the FSM has no
condition flags"); these are the one-bit conditions and thresholds its pseudocode computes from the state. -/

namespace Sys2Proof.Machine

/-- The in-service group: AR, ANR, IS, PO (00_scope.md, glossary). -/
def LinkState.inServiceGroup : LinkState → Bool
  | .alignedReady | .alignedNotReady | .inService | .processorOutage => true
  | .powerOff | .outOfService | .notAligned | .aligned | .proving => false

/-- Either side requests emergency alignment (44_error_monitor.md R353, 45_timers.md R375). -/
def emergencyRequested (s : State) : Bool := s.localEmergency || s.remoteEmergency

/-- The proving threshold `Ti()` (44_error_monitor.md R353). -/
def provingThreshold (s : State) : Nat :=
  if emergencyRequested s then Config.tiEmergency else Config.tiNormal

/-- The duration of a timer in the rate class of `RATE_64K` (45_timers.md R373). -/
def perRate (s : State) (p : Config.PerRate) : Nat := if s.rate64k then p.k64 else p.k4_8

/-- `Dur(n)`, T4's by the emergency flags at this moment (45_timers.md R373, R375). -/
def timerDuration (s : State) : TimerId → Nat
  | .t1 => perRate s s.params.t1Dur
  | .t2 => perRate s s.params.t2Dur
  | .t3 => perRate s s.params.t3Dur
  | .t4 => if emergencyRequested s then perRate s s.params.t4eDur else perRate s s.params.t4nDur

/-- `rx_sr` holds a flag (42_framer_rx.md R273). -/
def flagInSr (sr : Byte) : Bool := sr == Config.flag

/-- `rx_sr` holds an abort: a 0, then seven 1s (42_framer_rx.md R275). -/
def abortInSr (sr : Byte) : Bool := sr == 0xFE

/-- The newest bit of `rx_sr` is a stuffed zero (42_framer_rx.md R276). -/
def stuffedInSr (sr : Byte) : Bool := sr &&& 0xFC == 0x7C

/-- The most bits the receive store holds: RX_MAX_BYTES bytes and seven flag bits (42_framer_rx.md R277). -/
def rxBitLimit (s : State) : Nat := 8 * s.params.rxMaxBytes + 7

end Sys2Proof.Machine
end

