-- ==== Sys2Proof/Machine/Ops.lean ====
section
/-! DEFINITION. The shared operations over the state: the ports to the host, the timers, the failure action (what
this block has for taking an exception) and the START action (what it has for a return from one). -/

namespace Sys2Proof.Machine

/-! ### The ports to the host -/

/-- `respond(v)` (00_scope.md R9, 30_encoding.md R106). -/
def respond (r : Response) (s : State) : State := { s with responses := s.responses ++ [r] }

/-- `Indicate(kind, ...)` (00_scope.md R9, 10_state.md R58). -/
def indicate (x : Indication) (s : State) : State := { s with indOut := s.indOut ++ [x] }

/-- The next operation the host presents, and the state with it taken from the stream (20_memory.md R80; log
entry 1). -/
def fetch (s : State) : Option (Command × State) :=
  match s.cmds with
  | [] => none
  | c :: rest => some (c, { s with cmds := rest })

/-! ### Timers (45_timers.md) -/

/-- Timer `n` of the state. -/
def getTimer (n : TimerId) (s : State) : Timer :=
  match n with
  | .t1 => s.t1
  | .t2 => s.t2
  | .t3 => s.t3
  | .t4 => s.t4

/-- The state with timer `n` replaced. -/
def setTimer (n : TimerId) (t : Timer) (s : State) : State :=
  match n with
  | .t1 => { s with t1 := t }
  | .t2 => { s with t2 := t }
  | .t3 => { s with t3 := t }
  | .t4 => { s with t4 := t }

/-- `Cancel(n)` (45_timers.md R372). -/
def cancel (n : TimerId) (s : State) : State := setTimer n Timer.off s

/-- `Arm(n)`: it cancels first, then starts from the full current duration (45_timers.md R371). -/
def arm (n : TimerId) (s : State) : State := setTimer n ⟨true, timerDuration s n⟩ (cancel n s)

/-! ### Failure entry and recovery (60_exceptions.md R409, R410) -/

/-- The Stop action (40_fsm.md R149). `local_emergency`, `local_outage`, the transmitter and the receiver keep their
values. -/
def stop (s : State) : State :=
  { s with
    queue := []
    txLssu := some lssuSIOS
    t1 := Timer.off
    t2 := Timer.off
    t3 := Timer.off
    t4 := Timer.off
    txSeq := Config.seqReset
    rxSeq := Config.seqReset
    txQueueSeq := Config.seqReset
    fib := true
    bib := true
    txNack := false
    provingErrors := 0
    monitorErrors := 0
    monitorGood := 0
    provingTry := 0
    furtherProving := false
    remoteEmergency := false
    remoteOutage := false
    state := .outOfService }

/-- The failure action `Fail(cause)`: Stop, then the indication (40_fsm.md R150, 60_exceptions.md R409). -/
def fail (c : Cause) (s : State) : State := indicate (.outOfService c) (stop s)

/-- The START action in OUT_OF_SERVICE, the only way on after a failure (40_fsm.md R155, 60_exceptions.md R410). -/
def startAlignment (s : State) : State :=
  { arm .t2 { s with txLssu := some lssuSIO } with state := .notAligned }

end Sys2Proof.Machine
end

