-- ==== Sys2Proof/Machine/Sequencing.lean ====
section
/-! DEFINITION. The sequencing component and the ENQUEUE operation (43_sequencing.md). Sequence arithmetic is that of
BitVec 7, modulo 128 (R328). -/

namespace Sys2Proof.Machine

/-- `Append(sio, data)` (43_sequencing.md R312). -/
def appendEntry (sio : Byte) (data : List Byte) (s : State) : State :=
  { s with
    txQueueSeq := s.txQueueSeq + 1
    queue := s.queue ++ [⟨s.txQueueSeq + 1, sio, data, false⟩] }

/-- The first entry with sequence number `want`, marked transmitted, and the queue with it so marked
(43_sequencing.md R316). -/
def takeSeq (want : Seq) : List Entry → Option (Entry × List Entry)
  | [] => none
  | e :: q =>
    if e.seq = want then some ({ e with transmitted := true }, { e with transmitted := true } :: q)
    else (takeSeq want q).map fun r => (r.1, e :: r.2)

/-- `Select()` (43_sequencing.md R316, R317). -/
def select (s : State) : Option Entry × State :=
  if Config.congestionLimit ≤ s.queue.length then (none, s)
  else
    match takeSeq (s.txSeq + 1) s.queue with
    | none => (none, s)
    | some (m, q) => (some m, { s with queue := q, txSeq := m.seq })

/-- The scan of `Ack`: what is left of the queue when the entry `bsn` is reached over transmitted entries only, none
when it is not (43_sequencing.md R320). -/
def ackScan (bsn : Seq) : List Entry → Option (List Entry)
  | [] => none
  | e :: q => if e.transmitted = false then none else if e.seq = bsn then some q else ackScan bsn q

/-- `Ack(bsn)` (43_sequencing.md R320). -/
def ack (bsn : Seq) (s : State) : State := { s with queue := (ackScan bsn s.queue).getD s.queue }

/-- `Nack(bsn, bib_rx)` (43_sequencing.md R322). -/
def nack (bsn : Seq) (bibRx : Bool) (s : State) : State :=
  if s.queue.any fun e => e.transmitted && e.seq == bsn + 1 then { s with txSeq := bsn, fib := bibRx } else s

/-- `AckOrNack(bsn, bib_rx)` (43_sequencing.md R324). -/
def ackOrNack (bsn : Seq) (bibRx : Bool) (s : State) : State :=
  if bibRx = s.fib then ack bsn s else nack bsn bibRx s

/-- `AcceptMsu(a)` (43_sequencing.md R326). -/
def acceptMsu (a : EventArg) (s : State) : State :=
  if a.fsn = s.rxSeq + 1 ∧ a.fib = s.bib then
    indicate (.data a.sio a.data) { s with rxSeq := a.fsn }
  else if a.fsn ≠ s.rxSeq ∧ a.fib = s.bib then { s with txNack := true }
  else s

/-- `SeqRx(arg, FISU)` (40_fsm.md R195). -/
def seqRxFisu (a : EventArg) (s : State) : State := ackOrNack a.bsn a.bib s

/-- `SeqRx(arg, MSU)` (40_fsm.md R195). -/
def seqRxMsu (a : EventArg) (s : State) : State := acceptMsu a (ackOrNack a.bsn a.bib s)

/-- ENQUEUE (43_sequencing.md R310 to R313). -/
def execEnqueue (sio : Byte) (data : List Byte) (s : State) : Host.Outcome State Fault Refusal :=
  if s.state ≠ .inService then .next (respond (.enq .notInService) s)
  else if data.length < 2 then .next (respond (.enq .tooShort) s)
  else if s.params.queueDepth ≤ s.queue.length then .next (respond (.enq .queueFull) s)
  else
    .next (respond (.enq (if s.params.txMaxData < data.length then .truncated else .accepted))
      (appendEntry sio (data.take s.params.txMaxData) s))

end Sys2Proof.Machine
end

