-- ==== Sys2Proof/Machine/Fsm.lean ====
section
/-! DEFINITION. The link alignment and service FSM: the row actions and the first-match table (40_fsm.md R143 to
R205). -/

namespace Sys2Proof.Machine

/-! ### Shared row actions -/

/-- The LSSU sent on entry to ALIGNED (40_fsm.md R160). -/
def alignedLssu (s : State) : LssuStatus := if s.localEmergency then lssuSIE else lssuSIN

/-- `EnterAligned(st)` (40_fsm.md R160). -/
def enterAligned (st : LssuStatus) (s : State) : State :=
  let s := cancel .t2 s
  let s := { s with
    remoteEmergency := if st = lssuSIE then true else if st = lssuSIN then false else s.remoteEmergency }
  let s := { s with txLssu := some (alignedLssu s) }
  let s := arm .t3 s
  { s with state := .aligned }

/-- `EnterProving(st)` (40_fsm.md R165). -/
def enterProving (st : LssuStatus) (s : State) : State :=
  let s := cancel .t3 s
  let s := { s with
    remoteEmergency := decide (st = lssuSIE), provingTry := 0, provingErrors := 0, furtherProving := false }
  let s := arm .t4 s
  { s with state := .proving }

/-- Row 15, abort proving (40_fsm.md R171). -/
def abortProving (s : State) : State :=
  let s := { s with provingTry := s.provingTry + 1 }
  if s.provingTry = Config.provingTries then fail .provingFailureLocal s
  else { s with furtherProving := true, provingErrors := 0 }

/-- Row 18, T4 expiry in PROVING (40_fsm.md R173; T1 is armed on both branches, 90_conflicts.md C6). -/
def provingComplete (s : State) : State :=
  let s := cancel .t4 s
  if s.furtherProving then arm .t4 { s with furtherProving := false, provingErrors := 0 }
  else if s.localOutage then arm .t1 { s with txLssu := some lssuSIPO, state := .alignedNotReady }
  else arm .t1 { s with txLssu := none, state := .alignedReady }

/-- Row 25, SIPO in AR, ANR or IS (40_fsm.md R190). -/
def remoteOutageBegins (s : State) : State :=
  indicate .remoteProcessorOutage { cancel .t1 s with remoteOutage := true, state := .processorOutage }

/-- Row 26, SIPO in PROCESSOR_OUTAGE: reported once (40_fsm.md R199). -/
def remoteOutageRecorded (s : State) : State :=
  if s.remoteOutage then s else indicate .remoteProcessorOutage { s with remoteOutage := true }

/-- The part rows 27 to 30 share: T1 cancelled, the state entered, IN_SERVICE (40_fsm.md R191 to R194). -/
def linkUp (st : LinkState) (s : State) : State := indicate .inService { cancel .t1 s with state := st }

/-- The part rows 33 and 34 share: the outage recovery check (40_fsm.md R200, R201). -/
def remoteRecoveryCheck (s : State) : State :=
  if s.remoteOutage then
    if s.localOutage then { s with remoteOutage := false }
    else indicate .remoteProcessorRecovered
      { s with remoteOutage := false, state := .inService, txLssu := none }
  else s

/-- Rows 35, 37 and 38: local outage begins, SIPO is sent (40_fsm.md R196, R198, R202). -/
def localOutageBegins (st : LinkState) (s : State) : State :=
  { s with localOutage := true, txLssu := some lssuSIPO, state := st }

/-- Row 36, local processor recovered in ALIGNED_NOT_READY (40_fsm.md R197). -/
def localOutageEndsNotReady (s : State) : State :=
  { s with localOutage := false, txLssu := none, state := .alignedReady }

/-- Row 39, local processor recovered in PROCESSOR_OUTAGE (40_fsm.md R203). -/
def localOutageEnds (s : State) : State :=
  let s := { s with localOutage := false, txLssu := none }
  if s.remoteOutage then s else indicate .remoteProcessorRecovered { s with state := .inService }

/-! ### The table -/

/-- A row of the table: the states and the event it matches, and its action (40_fsm.md R143). -/
structure Row where
  /-- row number -/
  number : Nat
  /-- the states it applies in -/
  states : List LinkState
  /-- the event it applies to -/
  event : Event
  /-- its action, on the argument record and the state -/
  action : EventArg → State → State

/-- The states of an all-states row. -/
def allStates : List LinkState :=
  [.powerOff, .outOfService, .notAligned, .aligned, .proving, .alignedReady, .alignedNotReady, .inService,
    .processorOutage]

/-- AR, ANR, IS, PO. -/
def groupStates : List LinkState := [.alignedReady, .alignedNotReady, .inService, .processorOutage]

/-- Rows 1 to 18: all-states rows that come first, Out of Service, Not Aligned, Aligned, Proving. -/
def rowsAlignment : List Row := [
  ⟨1, allStates, .powerOn, fun _ => stop⟩,
  ⟨2, allStates, .stop, fun _ => stop⟩,
  ⟨3, allStates, .emergency, fun _ s => { s with localEmergency := true }⟩,
  ⟨4, allStates, .emergencyCeases, fun _ s => { s with localEmergency := false }⟩,
  ⟨5, [.outOfService], .start, fun _ => startAlignment⟩,
  ⟨6, [.notAligned], .sioRx, fun _ => enterAligned lssuSIO⟩,
  ⟨7, [.notAligned], .sinRx, fun _ => enterAligned lssuSIN⟩,
  ⟨8, [.notAligned], .sieRx, fun _ => enterAligned lssuSIE⟩,
  ⟨9, [.notAligned], .t2Timeout, fun _ => fail .alignmentTimeout⟩,
  ⟨10, [.aligned], .sinRx, fun _ => enterProving lssuSIN⟩,
  ⟨11, [.aligned], .sieRx, fun _ => enterProving lssuSIE⟩,
  ⟨12, [.aligned], .siosRx, fun _ => fail .provingFailureRemote⟩,
  ⟨13, [.aligned], .t3Timeout, fun _ => fail .provingTimeout⟩,
  ⟨14, [.proving], .correctSu, fun _ s => { s with furtherProving := false }⟩,
  ⟨15, [.proving], .abortProving, fun _ => abortProving⟩,
  ⟨16, [.proving], .sioRx, fun _ => fail .provingFailureRemote⟩,
  ⟨17, [.proving], .siosRx, fun _ => fail .provingFailureRemote⟩,
  ⟨18, [.proving], .t4Timeout, fun _ => provingComplete⟩]

/-- Rows 19 to 41: the in-service group, and the all-states outage rows, which come last (90_conflicts.md C7). -/
def rowsService : List Row := [
  ⟨19, groupStates, .linkFailure, fun _ => fail .linkFailureLocal⟩,
  ⟨20, [.alignedReady, .alignedNotReady], .t1Timeout, fun _ => fail .linkFailureLocal⟩,
  ⟨21, groupStates, .sioRx, fun _ => fail .linkFailureRemote⟩,
  ⟨22, [.inService, .processorOutage], .sinRx, fun _ => fail .linkFailureRemote⟩,
  ⟨23, [.inService, .processorOutage], .sieRx, fun _ => fail .linkFailureRemote⟩,
  ⟨24, groupStates, .siosRx, fun _ => fail .linkFailureRemote⟩,
  ⟨25, [.alignedReady, .alignedNotReady, .inService], .sipoRx, fun _ => remoteOutageBegins⟩,
  ⟨26, [.processorOutage], .sipoRx, fun _ => remoteOutageRecorded⟩,
  ⟨27, [.alignedReady], .fisuRx, fun a s => seqRxFisu a (linkUp .inService s)⟩,
  ⟨28, [.alignedReady], .msuRx, fun a s => seqRxMsu a (linkUp .inService s)⟩,
  ⟨29, [.alignedNotReady], .fisuRx, fun a s => seqRxFisu a (linkUp .processorOutage s)⟩,
  ⟨30, [.alignedNotReady], .msuRx, fun a s => seqRxMsu a (linkUp .processorOutage s)⟩,
  ⟨31, [.inService], .fisuRx, seqRxFisu⟩,
  ⟨32, [.inService], .msuRx, seqRxMsu⟩,
  ⟨33, [.processorOutage], .fisuRx, fun a s => seqRxFisu a (remoteRecoveryCheck s)⟩,
  ⟨34, [.processorOutage], .msuRx, fun a s => seqRxMsu a (remoteRecoveryCheck s)⟩,
  ⟨35, [.alignedReady], .localProcessorOutage, fun _ => localOutageBegins .alignedNotReady⟩,
  ⟨36, [.alignedNotReady], .localProcessorRecovered, fun _ => localOutageEndsNotReady⟩,
  ⟨37, [.inService], .localProcessorOutage, fun _ => localOutageBegins .processorOutage⟩,
  ⟨38, [.processorOutage], .localProcessorOutage, fun _ => localOutageBegins .processorOutage⟩,
  ⟨39, [.processorOutage], .localProcessorRecovered, fun _ => localOutageEnds⟩,
  ⟨40, allStates, .localProcessorOutage, fun _ s => { s with localOutage := true }⟩,
  ⟨41, allStates, .localProcessorRecovered, fun _ s => { s with localOutage := false }⟩]

/-- TABLE, in first-match order (40_fsm.md R143). -/
def fsmTable : List Row := rowsAlignment ++ rowsService

/-- The first row that matches the event in the state (40_fsm.md R142). -/
def matchingRow (ev : Event) (st : LinkState) : Option Row :=
  fsmTable.find? fun r => decide (r.event = ev) && r.states.contains st

/-- The table search of `Dispatch`: the state after the first matching row, and whether there was one (40_fsm.md R141,
R142). -/
def searchTable (ev : Event) (a : EventArg) (s : State) : State × Bool :=
  match matchingRow ev s.state with
  | some r => (r.action a s, true)
  | none => (s, false)

end Sys2Proof.Machine
end

