-- ==== Sys2Proof/Machine/Monitor.lean ====
section
/-! DEFINITION. The error monitors and the event dispatcher (44_error_monitor.md, 40_fsm.md R141). -/

namespace Sys2Proof.Machine

/-- A nested dispatch by a monitor. The only events a monitor raises, ABORT_PROVING and LINK_FAILURE, feed no monitor
hook, so their dispatch is the table search alone (40_fsm.md R145; log entry 13). -/
def raiseFromMonitor (ev : Event) (s : State) : State := (searchTable ev EventArg.empty s).1

/-- `InServiceGood()` (44_error_monitor.md R355). -/
def inServiceGood (s : State) : State :=
  if s.monitorGood = Config.dGood - 1 then { s with monitorGood := 0, monitorErrors := s.monitorErrors - 1 }
  else { s with monitorGood := s.monitorGood + 1 }

/-- `InServiceBad()` (44_error_monitor.md R356). -/
def inServiceBad (s : State) : State :=
  let s := { s with monitorGood := 0, monitorErrors := s.monitorErrors + 1 }
  if Config.tMonitor ≤ s.monitorErrors then raiseFromMonitor .linkFailure s else s

/-- `ProvingBad()` (44_error_monitor.md R352). -/
def provingBad (s : State) : State :=
  let s := { s with provingErrors := s.provingErrors + 1 }
  if provingThreshold s ≤ s.provingErrors then raiseFromMonitor .abortProving s else s

/-- `MonitorGood()` (44_error_monitor.md R350, R351). -/
def monitorGoodHook (s : State) : State :=
  if s.state.inServiceGroup && !s.ignoreMonitor then inServiceGood s else s

/-- `MonitorBad()` (44_error_monitor.md R350, R351). -/
def monitorBadHook (s : State) : State :=
  if s.state = .proving ∧ s.ignoreMonitor = false then provingBad s
  else if s.state.inServiceGroup && !s.ignoreMonitor then inServiceBad s
  else s

/-- The monitor hook of an event (40_fsm.md R141). -/
def monitorHook (ev : Event) (s : State) : State :=
  if ev = .correctSu then monitorGoodHook s
  else if ev = .badFrame ∨ ev = .octetCountErr then monitorBadHook s
  else s

/-- `Dispatch(ev, arg)`: the monitor hook, then the first matching row; the state after it, and whether a row matched
(40_fsm.md R141). -/
def dispatch (ev : Event) (a : EventArg) (s : State) : State × Bool := searchTable ev a (monitorHook ev s)

/-- An event raised inside the block by the receiver or the timer controller: the answer of the dispatch is not read
(40_fsm.md R146). -/
def raise (ev : Event) (a : EventArg) (s : State) : State := (dispatch ev a s).1

/-- The EVENT operation (40_fsm.md R140). -/
def eventOp (ev : Event) (a : EventArg) (s : State) : Host.Outcome State Fault Refusal :=
  .next (respond (if (dispatch ev a s).2 then .matched else .ignored) (dispatch ev a s).1)

end Sys2Proof.Machine
end

