-- ==== Sys2Proof/Machine/Events.lean ====
section
/-! DEFINITION. The EVENT operation, one meaning for each event code (40_fsm.md R140). -/

namespace Sys2Proof.Machine

/-- EVENT.POWER_ON (40_fsm.md R151). -/
def execEventPowerOn (s : State) : Host.Outcome State Fault Refusal :=
  eventOp .powerOn EventArg.empty s

/-- EVENT.START (40_fsm.md R155). -/
def execEventStart (s : State) : Host.Outcome State Fault Refusal :=
  eventOp .start EventArg.empty s

/-- EVENT.STOP (40_fsm.md R152). -/
def execEventStop (s : State) : Host.Outcome State Fault Refusal :=
  eventOp .stop EventArg.empty s

/-- EVENT.EMERGENCY (40_fsm.md R153). -/
def execEventEmergency (s : State) : Host.Outcome State Fault Refusal :=
  eventOp .emergency EventArg.empty s

/-- EVENT.EMERGENCY_CEASES (40_fsm.md R154). -/
def execEventEmergencyCeases (s : State) : Host.Outcome State Fault Refusal :=
  eventOp .emergencyCeases EventArg.empty s

/-- EVENT.LOCAL_PROCESSOR_OUTAGE (40_fsm.md R196, R198, R202, R204). -/
def execEventLocalProcessorOutage (s : State) : Host.Outcome State Fault Refusal :=
  eventOp .localProcessorOutage EventArg.empty s

/-- EVENT.LOCAL_PROCESSOR_RECOVERED (40_fsm.md R197, R203, R205). -/
def execEventLocalProcessorRecovered (s : State) : Host.Outcome State Fault Refusal :=
  eventOp .localProcessorRecovered EventArg.empty s

/-- EVENT.RESERVED_7: a reserved code, which matches no row and feeds no monitor (40_fsm.md R140, R142). -/
def execEventReserved7 (s : State) : Host.Outcome State Fault Refusal :=
  eventOp .reserved7 EventArg.empty s

/-- EVENT.SIO_RX (40_fsm.md R156, R172, R182). -/
def execEventSioRx (s : State) : Host.Outcome State Fault Refusal :=
  eventOp .sioRx EventArg.empty s

/-- EVENT.SIN_RX (40_fsm.md R157, R161, R184, R186). -/
def execEventSinRx (s : State) : Host.Outcome State Fault Refusal :=
  eventOp .sinRx EventArg.empty s

/-- EVENT.SIE_RX (40_fsm.md R158, R162, R185, R186). -/
def execEventSieRx (s : State) : Host.Outcome State Fault Refusal :=
  eventOp .sieRx EventArg.empty s

/-- EVENT.SIOS_RX (40_fsm.md R163, R174, R183). -/
def execEventSiosRx (s : State) : Host.Outcome State Fault Refusal :=
  eventOp .siosRx EventArg.empty s

/-- EVENT.SIPO_RX (40_fsm.md R190, R199). -/
def execEventSipoRx (s : State) : Host.Outcome State Fault Refusal :=
  eventOp .sipoRx EventArg.empty s

/-- EVENT.SIB_RX (40_fsm.md R187). -/
def execEventSibRx (s : State) : Host.Outcome State Fault Refusal :=
  eventOp .sibRx EventArg.empty s

/-- EVENT.RESERVED_14: a reserved code, which matches no row and feeds no monitor (40_fsm.md R140, R142). -/
def execEventReserved14 (s : State) : Host.Outcome State Fault Refusal :=
  eventOp .reserved14 EventArg.empty s

/-- EVENT.RESERVED_15: a reserved code, which matches no row and feeds no monitor (40_fsm.md R140, R142). -/
def execEventReserved15 (s : State) : Host.Outcome State Fault Refusal :=
  eventOp .reserved15 EventArg.empty s

/-- EVENT.FISU_RX (40_fsm.md R188, R191, R193, R200). -/
def execEventFisuRx (arg : EventArg) (s : State) : Host.Outcome State Fault Refusal :=
  eventOp .fisuRx arg s

/-- EVENT.MSU_RX (40_fsm.md R189, R192, R194, R201). -/
def execEventMsuRx (arg : EventArg) (s : State) : Host.Outcome State Fault Refusal :=
  eventOp .msuRx arg s

/-- EVENT.CORRECT_SU (40_fsm.md R141, R170, R210). -/
def execEventCorrectSu (s : State) : Host.Outcome State Fault Refusal :=
  eventOp .correctSu EventArg.empty s

/-- EVENT.BAD_FRAME (40_fsm.md R141, R210). -/
def execEventBadFrame (s : State) : Host.Outcome State Fault Refusal :=
  eventOp .badFrame EventArg.empty s

/-- EVENT.OCTET_COUNT_ERR (40_fsm.md R141, R210). -/
def execEventOctetCountErr (s : State) : Host.Outcome State Fault Refusal :=
  eventOp .octetCountErr EventArg.empty s

/-- EVENT.ABORT_PROVING (40_fsm.md R171). -/
def execEventAbortProving (s : State) : Host.Outcome State Fault Refusal :=
  eventOp .abortProving EventArg.empty s

/-- EVENT.LINK_FAILURE (40_fsm.md R180). -/
def execEventLinkFailure (s : State) : Host.Outcome State Fault Refusal :=
  eventOp .linkFailure EventArg.empty s

/-- EVENT.T1_TIMEOUT (40_fsm.md R181). -/
def execEventT1Timeout (s : State) : Host.Outcome State Fault Refusal :=
  eventOp .t1Timeout EventArg.empty s

/-- EVENT.T2_TIMEOUT (40_fsm.md R159). -/
def execEventT2Timeout (s : State) : Host.Outcome State Fault Refusal :=
  eventOp .t2Timeout EventArg.empty s

/-- EVENT.T3_TIMEOUT (40_fsm.md R164). -/
def execEventT3Timeout (s : State) : Host.Outcome State Fault Refusal :=
  eventOp .t3Timeout EventArg.empty s

/-- EVENT.T4_TIMEOUT (40_fsm.md R173). -/
def execEventT4Timeout (s : State) : Host.Outcome State Fault Refusal :=
  eventOp .t4Timeout EventArg.empty s

/-- EVENT.RESERVED_27: a reserved code, which matches no row and feeds no monitor (40_fsm.md R140, R142). -/
def execEventReserved27 (s : State) : Host.Outcome State Fault Refusal :=
  eventOp .reserved27 EventArg.empty s

/-- EVENT.RESERVED_28: a reserved code, which matches no row and feeds no monitor (40_fsm.md R140, R142). -/
def execEventReserved28 (s : State) : Host.Outcome State Fault Refusal :=
  eventOp .reserved28 EventArg.empty s

/-- EVENT.RESERVED_29: a reserved code, which matches no row and feeds no monitor (40_fsm.md R140, R142). -/
def execEventReserved29 (s : State) : Host.Outcome State Fault Refusal :=
  eventOp .reserved29 EventArg.empty s

/-- EVENT.RESERVED_30: a reserved code, which matches no row and feeds no monitor (40_fsm.md R140, R142). -/
def execEventReserved30 (s : State) : Host.Outcome State Fault Refusal :=
  eventOp .reserved30 EventArg.empty s

/-- EVENT.RESERVED_31: a reserved code, which matches no row and feeds no monitor (40_fsm.md R140, R142). -/
def execEventReserved31 (s : State) : Host.Outcome State Fault Refusal :=
  eventOp .reserved31 EventArg.empty s

end Sys2Proof.Machine
end

