-- ==== Sys2Proof/Machine/Operands.lean ====
section
/-! DEFINITION. The operand forms of frames: bit order on the wire, header bytes, the length indicator, bit stuffing
and the CRC (20_memory.md, 30_encoding.md section 2, 41_framer_tx.md). -/

namespace Sys2Proof.Machine

/-- The bits of a byte in transmission order: least significant first (20_memory.md R70). -/
def byteBits (x : Byte) : List Bool := (List.range 8).map x.getLsbD

/-- The bits of a byte string in transmission order (20_memory.md R70, 41_framer_tx.md R245). -/
def frameBits (bytes : List Byte) : List Bool := bytes.flatMap byteBits

/-- The byte whose bits are given, the first of them in bit 0 (42_framer_rx.md R280). -/
def byteOfBits (bits : List Bool) : Byte :=
  bits.foldr (fun b acc => (acc <<< 1) ||| (BitVec.ofBool b).setWidth 8) 0

/-- `MemRead(rx_bits, i, 1)`: stored bits `8i` to `8i+7`, the earliest in bit 0 (20_memory.md R75). -/
def memReadBits (bits : List Bool) (i : Nat) : Byte := byteOfBits ((bits.drop (8 * i)).take 8)

/-- The first `n` bytes of a bit store (42_framer_rx.md R274). -/
def bytesOfBits (bits : List Bool) (n : Nat) : List Byte := (List.range n).map (memReadBits bits)

/-- Frame bit `k` of a byte string: bit `k mod 8` of byte `k div 8` (41_framer_tx.md R245). A byte that is not there
reads as 0, which no reachable state asks for (log entry 10). -/
def frameBit (bytes : List Byte) (k : Nat) : Bool := (bytes.getD (k / 8) 0).getLsbD (k % 8)

/-- A header byte: the indicator bit in bit 7, the sequence number in bits 6:0 (30_encoding.md R111, R112). -/
def headerByte (ind : Bool) (seq : Seq) : Byte := BitVec.ofBool ind ++ seq

/-- The sequence number of a header byte, bits 6:0 (30_encoding.md R111, R112). -/
def headerSeq (x : Byte) : Seq := x.extractLsb' 0 7

/-- The indicator bit of a header byte, bit 7 (30_encoding.md R111, R112). -/
def headerInd (x : Byte) : Bool := x.getLsbD 7

/-- The length-indicator byte of a payload of `p` bytes: `min(p, 63)`, bits 7:6 zero (30_encoding.md R113). -/
def liByte (p : Nat) : Byte := BitVec.ofNat 8 (min p Config.liMax)

/-- `LiOk` (42_framer_rx.md R281); bits 7:6 of byte 2 are ignored. -/
def liOk (byte2 : Byte) (p : Nat) : Bool :=
  let li := (byte2.extractLsb' 0 6).toNat
  if p < Config.liMax then li == p else li == Config.liMax

/-- One bit of the CRC-16/X-25 computation (41_framer_tx.md R244). -/
def crcBit (c : BitVec 16) : BitVec 16 := if c.getLsbD 0 then (c >>> 1) ^^^ 0x8408 else c >>> 1

/-- One byte of it: the byte is added, then eight bits are processed (41_framer_tx.md R244). -/
def crcByte (c : BitVec 16) (x : Byte) : BitVec 16 :=
  crcBit (crcBit (crcBit (crcBit (crcBit (crcBit (crcBit (crcBit (c ^^^ x.setWidth 16))))))))

/-- The default of the parameter CRC16, CRC-16/X-25 (41_framer_tx.md R244; log entry 7). -/
def crcX25 (bytes : List Byte) : BitVec 16 := bytes.foldl crcByte 0xFFFF ^^^ 0xFFFF

/-- `CRC16(bytes)`, the function the parameter names (00_scope.md R5, 41_framer_tx.md R244; log entry 7). -/
def crc16 (f : Config.Crc16) (bytes : List Byte) : BitVec 16 :=
  match f with
  | .x25 => crcX25 bytes
  | .given => Config.givenCrc16 bytes

/-- The two CRC bytes, low byte first (20_memory.md R71). -/
def crcBytes (f : Config.Crc16) (bytes : List Byte) : List Byte :=
  [(crc16 f bytes).extractLsb' 0 8, (crc16 f bytes).extractLsb' 8 8]

/-- Bit stuffing of a bit string, `ones` consecutive 1s having been sent before it (41_framer_tx.md R247, R248). -/
def stuffBits (ones : Nat) : List Bool → List Bool
  | [] => []
  | b :: bs =>
    let n := if b then ones + 1 else 0
    if n = Config.stuffRun then b :: false :: stuffBits 0 bs else b :: stuffBits n bs

/-- `Stuff(bytes)` (41_framer_tx.md R248). -/
def stuff (bytes : List Byte) : List Bool := stuffBits 0 (frameBits bytes)

/-- The bits of a flag in transmission order (41_framer_tx.md R246). -/
def flagBits : List Bool := byteBits Config.flag

end Sys2Proof.Machine
end

