-- ==== Sys2Proof/Machine/Receive.lean ====
section
/-! DEFINITION. The receive side of the framer and the RX_BIT operation (42_framer_rx.md). -/

namespace Sys2Proof.Machine

/-- The new bit is shifted in at bit 7 (42_framer_rx.md R271). -/
def shiftIn (b : Bool) (s : State) : State :=
  { s with rx := { s.rx with sr := BitVec.ofBool b ++ s.rx.sr.extractLsb' 1 7 } }

/-- Octet counting, counting step (42_framer_rx.md R272). -/
def countOctetBit (s : State) : State :=
  if s.rx.ocActive then
    if s.rx.ocBits + 1 = Config.octetCountBits then
      raise .octetCountErr EventArg.empty { s with rx := { s.rx with ocBits := 0 } }
    else { s with rx := { s.rx with ocBits := s.rx.ocBits + 1 } }
  else s

/-- The argument record of a received frame's header (42_framer_rx.md R285, R287). -/
def headerArg (f : List Byte) : EventArg :=
  { EventArg.empty with
    bsn := headerSeq (f.getD 0 0), bib := headerInd (f.getD 0 0)
    fsn := headerSeq (f.getD 1 0), fib := headerInd (f.getD 1 0) }

/-- The argument record of a received MSU of `n` bytes (42_framer_rx.md R285, R287). -/
def msuArg (f : List Byte) (n : Nat) : EventArg :=
  { headerArg f with sio := f.getD 3 0, data := (f.drop 4).take (n - 6) }

/-- The event of a received LSSU status; the reserved statuses 6 and 7 raise none (42_framer_rx.md R286). -/
def lssuEvent (status : LssuStatus) : Option Event :=
  match status.toNat with
  | 0 => some .sioRx
  | 1 => some .sinRx
  | 2 => some .sieRx
  | 3 => some .siosRx
  | 4 => some .sipoRx
  | 5 => some .sibRx
  | _ => none

/-- The frame's own event, by its payload length (42_framer_rx.md R285, 30_encoding.md R116). -/
def frameEvent (f : List Byte) (n : Nat) (s : State) : State :=
  if n - 5 = 0 then raise .fisuRx (headerArg f) s
  else if n - 5 ≤ 2 then
    match lssuEvent ((f.getD 3 0).extractLsb' 0 3) with
    | some ev => raise ev EventArg.empty s
    | none => s
  else raise .msuRx (msuArg f n) s

/-- `GoodFrame(f, n)` (42_framer_rx.md R285). -/
def goodFrame (f : List Byte) (n : Nat) (s : State) : State :=
  frameEvent f n
    (raise .correctSu EventArg.empty { s with rx := { s.rx with ocActive := false, ocBits := 0 } })

/-- An empty frame closed: the run of empty frames, reported once when it reaches FLAG_LIMIT (42_framer_rx.md R274,
R288). -/
def closeEmptyFrame (s : State) : State :=
  if s.rx.flagRun < max s.params.flagLimit 1 then
    let s' := { s with rx := { s.rx with flagRun := s.rx.flagRun + 1 } }
    if s.params.flagLimit ≠ 0 ∧ s'.rx.flagRun = s.params.flagLimit then raise .badFrame EventArg.empty s' else s'
  else s

/-- The checks of a non-empty closed frame of `nb` bits whose bytes are `f`: whole bytes, at least 5 of them, the CRC of
the function `c`, the length indicator (42_framer_rx.md R274, R279, R281, R283). -/
def frameOk (c : Config.Crc16) (nb : Nat) (f : List Byte) : Bool :=
  let n := nb / 8
  nb % 8 == 0 && 5 ≤ n && crcBytes c (f.take (n - 2)) == f.drop (n - 2) && liOk (f.getD 2 0) (n - 5)

/-- A non-empty frame of `nb` bits closed: the run of empty frames restarts, and the frame is good or bad
(42_framer_rx.md R274, R284). -/
def closeFilledFrame (nb : Nat) (s : State) : State :=
  let f := bytesOfBits s.rx.bits (nb / 8)
  if frameOk s.params.crc16 nb f then goodFrame f (nb / 8) { s with rx := { s.rx with flagRun := 0 } }
  else raise .badFrame EventArg.empty { s with rx := { s.rx with flagRun := 0 } }

/-- `CloseFrame()`: the seven flag bits stored are dropped, an empty frame is told from a filled one (42_framer_rx.md
R274). -/
def closeFrame (s : State) : State :=
  if s.rx.nbits ≤ 7 then closeEmptyFrame s else closeFilledFrame (s.rx.nbits - 7) s

/-- The receive store emptied. -/
def clearStore (r : RxState) : RxState := { r with bits := [], nbits := 0 }

/-- A flag restarts the octet count (42_framer_rx.md R272, R273). -/
def restartOctetCount (s : State) : State :=
  if s.rx.ocActive then { s with rx := { s.rx with ocBits := 0 } } else s

/-- A flag closes the open frame, if there is one (42_framer_rx.md R273). -/
def closeOpenFrame (s : State) : State := if s.rx.inFrame then closeFrame s else s

/-- A new frame opens with no bits stored (42_framer_rx.md R273). -/
def openFrame (s : State) : State := { s with rx := { clearStore s.rx with inFrame := true } }

/-- A flag: the octet count restarts, an open frame is closed, a new one opens (42_framer_rx.md R273). -/
def flagReceived (s : State) : State := openFrame (closeOpenFrame (restartOctetCount s))

/-- An abort: the open frame is dropped and octet counting starts (42_framer_rx.md R275). -/
def abortReceived (s : State) : State :=
  let r := { clearStore s.rx with inFrame := false, flagRun := 0 }
  { s with rx := if r.ocActive then r else { r with ocActive := true, ocBits := 0 } }

/-- A frame bit: stored, or the end of a too-long frame (42_framer_rx.md R277), which is a bad non-empty frame and so
restarts the run of empty frames (R288; log entry 23). -/
def storeBit (b : Bool) (s : State) : State :=
  if s.rx.inFrame then
    if s.rx.nbits = rxBitLimit s then
      raise .badFrame EventArg.empty { s with rx := { clearStore s.rx with inFrame := false, flagRun := 0 } }
    else { s with rx := { s.rx with bits := s.rx.bits ++ [b], nbits := s.rx.nbits + 1 } }
  else s

/-- The flag, abort, stuffed-bit or store step, by the shift register (42_framer_rx.md R270). -/
def classifyBit (b : Bool) (s : State) : State :=
  if flagInSr s.rx.sr then flagReceived s
  else if abortInSr s.rx.sr then abortReceived s
  else if stuffedInSr s.rx.sr then s
  else storeBit b s

/-- The effect of RX_BIT (42_framer_rx.md R270). -/
def receiveBit (b : Bool) (s : State) : State := classifyBit b (countOctetBit (shiftIn b s))

/-- RX_BIT (42_framer_rx.md R270). -/
def execRxBit (b : Bool) (s : State) : Host.Outcome State Fault Refusal := .next (respond .ok (receiveBit b s))

end Sys2Proof.Machine
end

