-- ==== Sys2Proof/Machine/System.lean ====
section
/-! DEFINITION. NOP and the illegal command words (30_encoding.md R102, R103). -/

namespace Sys2Proof.Machine

/-- NOP (30_encoding.md R102). -/
def execNop (s : State) : Host.Outcome State Fault Refusal := .next (respond .ok s)

/-- An ILLEGAL command word: no state changes, the response is ILLEGAL (30_encoding.md R103, 60_exceptions.md
R404). -/
def illegalWord (s : State) : Host.Outcome State Fault Refusal := .next (respond .illegal s)

/-- RESERVED_OP_6: an ILLEGAL word; the operand is not read (30_encoding.md R103). -/
def execReservedOp6 (_operand : BitVec 12) (s : State) : Host.Outcome State Fault Refusal := illegalWord s

/-- RESERVED_OP_7: an ILLEGAL word; the operand is not read (30_encoding.md R103). -/
def execReservedOp7 (_operand : BitVec 12) (s : State) : Host.Outcome State Fault Refusal := illegalWord s

/-- RESERVED_OP_8: an ILLEGAL word; the operand is not read (30_encoding.md R103). -/
def execReservedOp8 (_operand : BitVec 12) (s : State) : Host.Outcome State Fault Refusal := illegalWord s

/-- RESERVED_OP_9: an ILLEGAL word; the operand is not read (30_encoding.md R103). -/
def execReservedOp9 (_operand : BitVec 12) (s : State) : Host.Outcome State Fault Refusal := illegalWord s

/-- RESERVED_OP_A: an ILLEGAL word; the operand is not read (30_encoding.md R103). -/
def execReservedOpA (_operand : BitVec 12) (s : State) : Host.Outcome State Fault Refusal := illegalWord s

/-- RESERVED_OP_B: an ILLEGAL word; the operand is not read (30_encoding.md R103). -/
def execReservedOpB (_operand : BitVec 12) (s : State) : Host.Outcome State Fault Refusal := illegalWord s

/-- RESERVED_OP_C: an ILLEGAL word; the operand is not read (30_encoding.md R103). -/
def execReservedOpC (_operand : BitVec 12) (s : State) : Host.Outcome State Fault Refusal := illegalWord s

/-- RESERVED_OP_D: an ILLEGAL word; the operand is not read (30_encoding.md R103). -/
def execReservedOpD (_operand : BitVec 12) (s : State) : Host.Outcome State Fault Refusal := illegalWord s

/-- RESERVED_OP_E: an ILLEGAL word; the operand is not read (30_encoding.md R103). -/
def execReservedOpE (_operand : BitVec 12) (s : State) : Host.Outcome State Fault Refusal := illegalWord s

/-- RESERVED_OP_F: an ILLEGAL word; the operand is not read (30_encoding.md R103). -/
def execReservedOpF (_operand : BitVec 12) (s : State) : Host.Outcome State Fault Refusal := illegalWord s

end Sys2Proof.Machine
end

