-- ==== Sys2Proof/Machine/Timers.lean ====
section
/-! DEFINITION. The timer controller and the TIMER_TICK operation (45_timers.md). -/

namespace Sys2Proof.Machine

/-- The decrement of one timer (45_timers.md R370). An armed timer holds at least 1 in every reachable state (log
entry 11). -/
def Timer.tick (t : Timer) : Timer := if t.armed then { t with count := t.count - 1 } else t

/-- The first loop of TIMER_TICK: every armed timer counts down by 1 (45_timers.md R370). -/
def decrementTimers (s : State) : State :=
  { s with t1 := s.t1.tick, t2 := s.t2.tick, t3 := s.t3.tick, t4 := s.t4.tick }

/-- The event of a timer's expiry (45_timers.md R370). -/
def timeoutEvent : TimerId → Event
  | .t1 => .t1Timeout
  | .t2 => .t2Timeout
  | .t3 => .t3Timeout
  | .t4 => .t4Timeout

/-- The second loop of TIMER_TICK for one timer: an armed timer at 0 is disarmed and its expiry dispatched
(45_timers.md R370). -/
def expireTimer (n : TimerId) (s : State) : State :=
  if (getTimer n s).armed = true ∧ (getTimer n s).count = 0 then
    raise (timeoutEvent n) EventArg.empty (setTimer n { getTimer n s with armed := false } s)
  else s

/-- The effect of TIMER_TICK: all decrements, then the expiries in the order T1, T2, T3, T4 (45_timers.md R370). -/
def tickTimers (s : State) : State :=
  expireTimer .t4 (expireTimer .t3 (expireTimer .t2 (expireTimer .t1 (decrementTimers s))))

/-- TIMER_TICK (45_timers.md R370). -/
def execTimerTick (s : State) : Host.Outcome State Fault Refusal := .next (respond .ok (tickTimers s))

end Sys2Proof.Machine
end

