-- ==== Sys2Proof/Machine/Transmit.lean ====
section
/-! DEFINITION. The transmit side of the framer and the TX_BIT operation (41_framer_tx.md). -/

namespace Sys2Proof.Machine

/-- The BIB inversion: "flip BIB on the next frame sent" (41_framer_tx.md R243). -/
def flipBib (s : State) : State := if s.txNack then { s with bib := !s.bib, txNack := false } else s

/-- The body of an LSSU: BSN and FSN headers, length indicator 1, the status (41_framer_tx.md R242, 30_encoding.md
R121). -/
def lssuBody (s : State) (status : LssuStatus) : List Byte :=
  [headerByte s.bib s.rxSeq, headerByte s.fib s.txSeq, liByte 1, status.setWidth 8]

/-- The body of a FISU: headers and a zero length indicator (41_framer_tx.md R242, R253). -/
def fisuBody (s : State) : List Byte := [headerByte s.bib s.rxSeq, headerByte s.fib s.txSeq, liByte 0]

/-- The body of an MSU carrying an entry (41_framer_tx.md R242, 30_encoding.md R122). -/
def msuBody (s : State) (m : Entry) : List Byte :=
  [headerByte s.bib s.rxSeq, headerByte s.fib m.seq, liByte (1 + m.data.length), m.sio] ++ m.data

/-- The choice of the frame to send: an LSSU when one is due, else the message Select returns, else a FISU; the body
and the state after Select (41_framer_tx.md R242, R252). -/
def chooseBody (s : State) : List Byte × State :=
  match s.txLssu with
  | some status => (lssuBody s status, s)
  | none =>
    match select s with
    | (some m, s') => (msuBody s m, s')
    | (none, s') => (fisuBody s', s')

/-- `BuildFrame()`: whether a frame was built, and the state with `tx_buf` and `tx_len` written (41_framer_tx.md R242,
R251). -/
def buildFrame (s : State) : Bool × State :=
  if s.state = .powerOff then (false, s)
  else
    let r := chooseBody (flipBib s)
    (true, { r.2 with tx := { r.2.tx with buf := r.1 ++ crcBytes s.params.crc16 r.1, len := r.1.length + 2 } })

/-- The start of a flag: the frame it opens is built at its first bit (41_framer_tx.md R240, R250). -/
def startFlag (s : State) : State :=
  if s.tx.flagIdx = 0 then
    { (buildFrame s).2 with tx := { (buildFrame s).2.tx with haveFrame := (buildFrame s).1 } }
  else s

/-- One flag bit has been sent: at the last one a frame that was built begins (41_framer_tx.md R240). -/
def advanceFlag (t : TxState) : TxState :=
  if t.flagIdx + 1 = 0 ∧ t.haveFrame = true then
    { t with flagIdx := t.flagIdx + 1, phase := .data, pos := 0, ones := 0 }
  else { t with flagIdx := t.flagIdx + 1 }

/-- The next bit of the DATA phase: a stuffed 0 after five 1s, else the next frame bit (41_framer_tx.md R240, R245,
R247). -/
def dataBit (t : TxState) : Bool := if t.ones = Config.stuffRun then false else frameBit t.buf t.pos

/-- The transmitter after that bit, its phase not yet decided (41_framer_tx.md R240). -/
def countDataBit (t : TxState) : TxState :=
  if t.ones = Config.stuffRun then { t with ones := 0 }
  else { t with pos := t.pos + 1, ones := if frameBit t.buf t.pos then t.ones + 1 else 0 }

/-- The end of the frame: all bits sent, and no stuffed 0 due (41_framer_tx.md R240, R249). -/
def endOfFrame (t : TxState) : TxState :=
  if t.pos = 8 * t.len ∧ t.ones ≠ Config.stuffRun then { t with phase := .flag } else t

/-- The effect of TX_BIT: the bit sent and the state after it (41_framer_tx.md R240). -/
def sendBit (s : State) : Bool × State :=
  match s.tx.phase with
  | .flag =>
    (Config.flag.getLsbD s.tx.flagIdx, { startFlag s with tx := advanceFlag (startFlag s).tx })
  | .data => (dataBit s.tx, { s with tx := endOfFrame (countDataBit s.tx) })

/-- TX_BIT (41_framer_tx.md R240). -/
def execTxBit (s : State) : Host.Outcome State Fault Refusal :=
  .next (respond (.bit (sendBit s).1) (sendBit s).2)

end Sys2Proof.Machine
end

