-- ==== Sys2Proof/Machine/Dispatch.lean ====
section
/-! DEFINITION. The dispatch of operations to their meanings, one arm per constructor of Instr. -/

namespace Sys2Proof.Machine

def exec (i : Instr) (s : State) : Host.Outcome State Fault Refusal :=
  match i with
  | .nop => Sys2Proof.Machine.execNop s
  | .rxBit b => Sys2Proof.Machine.execRxBit b s
  | .txBit => Sys2Proof.Machine.execTxBit s
  | .timerTick => Sys2Proof.Machine.execTimerTick s
  | .eventPowerOn => Sys2Proof.Machine.execEventPowerOn s
  | .eventStart => Sys2Proof.Machine.execEventStart s
  | .eventStop => Sys2Proof.Machine.execEventStop s
  | .eventEmergency => Sys2Proof.Machine.execEventEmergency s
  | .eventEmergencyCeases => Sys2Proof.Machine.execEventEmergencyCeases s
  | .eventLocalProcessorOutage => Sys2Proof.Machine.execEventLocalProcessorOutage s
  | .eventLocalProcessorRecovered => Sys2Proof.Machine.execEventLocalProcessorRecovered s
  | .eventReserved7 => Sys2Proof.Machine.execEventReserved7 s
  | .eventSioRx => Sys2Proof.Machine.execEventSioRx s
  | .eventSinRx => Sys2Proof.Machine.execEventSinRx s
  | .eventSieRx => Sys2Proof.Machine.execEventSieRx s
  | .eventSiosRx => Sys2Proof.Machine.execEventSiosRx s
  | .eventSipoRx => Sys2Proof.Machine.execEventSipoRx s
  | .eventSibRx => Sys2Proof.Machine.execEventSibRx s
  | .eventReserved14 => Sys2Proof.Machine.execEventReserved14 s
  | .eventReserved15 => Sys2Proof.Machine.execEventReserved15 s
  | .eventFisuRx arg => Sys2Proof.Machine.execEventFisuRx arg s
  | .eventMsuRx arg => Sys2Proof.Machine.execEventMsuRx arg s
  | .eventCorrectSu => Sys2Proof.Machine.execEventCorrectSu s
  | .eventBadFrame => Sys2Proof.Machine.execEventBadFrame s
  | .eventOctetCountErr => Sys2Proof.Machine.execEventOctetCountErr s
  | .eventAbortProving => Sys2Proof.Machine.execEventAbortProving s
  | .eventLinkFailure => Sys2Proof.Machine.execEventLinkFailure s
  | .eventT1Timeout => Sys2Proof.Machine.execEventT1Timeout s
  | .eventT2Timeout => Sys2Proof.Machine.execEventT2Timeout s
  | .eventT3Timeout => Sys2Proof.Machine.execEventT3Timeout s
  | .eventT4Timeout => Sys2Proof.Machine.execEventT4Timeout s
  | .eventReserved27 => Sys2Proof.Machine.execEventReserved27 s
  | .eventReserved28 => Sys2Proof.Machine.execEventReserved28 s
  | .eventReserved29 => Sys2Proof.Machine.execEventReserved29 s
  | .eventReserved30 => Sys2Proof.Machine.execEventReserved30 s
  | .eventReserved31 => Sys2Proof.Machine.execEventReserved31 s
  | .enqueue sio data => Sys2Proof.Machine.execEnqueue sio data s
  | .reservedOp6 operand => Sys2Proof.Machine.execReservedOp6 operand s
  | .reservedOp7 operand => Sys2Proof.Machine.execReservedOp7 operand s
  | .reservedOp8 operand => Sys2Proof.Machine.execReservedOp8 operand s
  | .reservedOp9 operand => Sys2Proof.Machine.execReservedOp9 operand s
  | .reservedOpA operand => Sys2Proof.Machine.execReservedOpA operand s
  | .reservedOpB operand => Sys2Proof.Machine.execReservedOpB operand s
  | .reservedOpC operand => Sys2Proof.Machine.execReservedOpC operand s
  | .reservedOpD operand => Sys2Proof.Machine.execReservedOpD operand s
  | .reservedOpE operand => Sys2Proof.Machine.execReservedOpE operand s
  | .reservedOpF operand => Sys2Proof.Machine.execReservedOpF operand s

end Sys2Proof.Machine
end

