-- ==== Sys2Proof/Machine/Step.lean ====
section
/-! DEFINITION. One step of the block: one operation, run to completion (00_scope.md R2, 20_memory.md R80). -/

namespace Sys2Proof.Machine

/-- One step. The next command is taken from the host's stream and decoded; an illegal word answers ILLEGAL
(30_encoding.md R103); an empty stream is a step in which the host has nothing to present, a NOP (R102; log
entry 4). -/
def step (s : State) : Host.Outcome State Fault Refusal :=
  match fetch s with
  | none => exec .nop s
  | some (c, s') =>
    match decode c with
    | .ok i => exec i s'
    | .error _ => illegalWord s'

/-- The state with the command word of the low `nbits` bits of `w` presented next, its side argument empty (log
entries 3 and 9). -/
def State.withFetchWord (s : State) (nbits w : Nat) : State :=
  { s with cmds := .ofWord (BitVec.ofNat 16 (w % 2 ^ nbits)) :: s.cmds }

end Sys2Proof.Machine
end

