-- ==== Sys2Proof/Machine/Pseudo.lean ====
section
/-! DEFINITION. The pseudo-operations of the assembler syntax, as the operations they expand to (30_encoding.md R131
to R133; log entry 17). -/

namespace Sys2Proof.Machine

/-- `rxbit` once per bit, in order (30_encoding.md R130). -/
def rxBits (bits : List Bool) : List Instr := bits.map .rxBit

/-- `rxblock [b0 .. bk]`, the source's `receive_block` (30_encoding.md R131). -/
def rxBlock (bytes : List Byte) : List Instr := rxBits (frameBits bytes)

/-- `txbits k` (30_encoding.md R133). -/
def txBits (k : Nat) : List Instr := List.replicate k .txBit

/-- `txblock k`, the source's `send_block` (30_encoding.md R132). -/
def txBlock (k : Nat) : List Instr := txBits (8 * k)

/-- The `k` bytes that `txblock k` results in, from the bits of its responses (30_encoding.md R132). -/
def txBlockResult (k : Nat) (rs : List Response) : List Byte :=
  bytesOfBits (rs.filterMap fun r => match r with | .bit b => some b | _ => none) k

/-- `rxflag` (30_encoding.md R133). -/
def rxFlag : List Instr := rxBits flagBits

/-- `rxframe [b0 .. b(n-1)]` (30_encoding.md R133). -/
def rxFrame (bytes : List Byte) : List Instr := rxFlag ++ rxBits (stuff bytes) ++ rxFlag

/-- `rxframe_crc [b0 .. b(m-1)]`, with the CRC of the function `f` (30_encoding.md R133). -/
def rxFrameCrc (f : Config.Crc16) (bytes : List Byte) : List Instr := rxFrame (bytes ++ crcBytes f bytes)

/-- `ticks k` (30_encoding.md R133). -/
def ticks (k : Nat) : List Instr := List.replicate k .timerTick

/-- The meanings of a list of operations, one after the other. -/
def execAll : List Instr → State → Host.Outcome State Fault Refusal
  | [], s => .next s
  | i :: is, s =>
    match exec i s with
    | .next s' => execAll is s'
    | .fault r => .fault r
    | .refused r => .refused r

/-- `loopback k`: `k` times TX_BIT, then RX_BIT with the bit just sent (30_encoding.md R133). -/
def loopback : Nat → State → Host.Outcome State Fault Refusal
  | 0, s => .next s
  | k + 1, s =>
    match execAll [.txBit, .rxBit (sendBit s).1] s with
    | .next s' => loopback k s'
    | .fault r => .fault r
    | .refused r => .refused r

end Sys2Proof.Machine
end

