-- ==== Sys2Proof/Safety.lean ====
section
/-! DEFINITION. The terms that claims are stated in: the invariants of the state record (10_state.md section 3 and
the rules named at each) and the tables of the spec that claims compare the model with. -/

namespace Sys2Proof.Machine

/-! ### Invariants -/

/-- Sequence numbers are consecutive modulo 128 from head to tail (10_state.md R45). -/
def consecutive : List Entry → Prop
  | [] => True
  | [_] => True
  | e :: e' :: q => e'.seq = e.seq + 1 ∧ consecutive (e' :: q)

/-- The queue: consecutive numbers that end at `tx_queue_seq` (R45), at most QUEUE_DEPTH entries (R38), data lengths
within 2..TX_MAX_DATA (R39), and entries only in IS and PO (43_sequencing.md R311). -/
structure QueueInv (s : State) : Prop where
  consecutive : consecutive s.queue
  tail : ∀ e ∈ s.queue.getLast?, e.seq = s.txQueueSeq
  depth : s.queue.length ≤ s.params.queueDepth
  sizes : ∀ e ∈ s.queue, 2 ≤ e.data.length ∧ e.data.length ≤ s.params.txMaxData
  states : s.queue ≠ [] → s.state = .inService ∨ s.state = .processorOutage

/-- A timer holds a count within 1 and its longest duration while armed, and 0 while not (10_state.md R40). -/
def Timer.inRange (t : Timer) (longest : Nat) : Prop :=
  (t.armed = true → 1 ≤ t.count ∧ t.count ≤ longest) ∧ (t.armed = false → t.count = 0)

/-- Each timer is armed exactly in the states it runs in (10_state.md R47, 45_timers.md R374), with a count in its
range (R40). -/
structure TimerInv (s : State) : Prop where
  t1State : s.t1.armed = true ↔ s.state = .alignedReady ∨ s.state = .alignedNotReady
  t2State : s.t2.armed = true ↔ s.state = .notAligned
  t3State : s.t3.armed = true ↔ s.state = .aligned
  t4State : s.t4.armed = true ↔ s.state = .proving
  t1Range : s.t1.inRange (perRate s s.params.t1Dur)
  t2Range : s.t2.inRange (perRate s s.params.t2Dur)
  t3Range : s.t3.inRange (perRate s s.params.t3Dur)
  t4Range : s.t4.inRange (max (perRate s s.params.t4nDur) (perRate s s.params.t4eDur))

/-- What the block sends in each state (41_framer_tx.md R252; in POFF the reset value, 10_state.md R59). -/
def lssuFits (s : State) : Prop :=
  match s.state with
  | .powerOff | .outOfService => s.txLssu = some lssuSIOS
  | .notAligned => s.txLssu = some lssuSIO
  | .aligned | .proving => s.txLssu = some lssuSIN ∨ s.txLssu = some lssuSIE
  | .alignedReady | .inService => s.txLssu = none
  | .alignedNotReady => s.txLssu = some lssuSIPO
  | .processorOutage => s.txLssu = if s.localOutage then some lssuSIPO else none

/-- The outage flags in each state (40_fsm.md R196 to R205; 10_state.md R25, R26). -/
def outageFits (s : State) : Prop :=
  match s.state with
  | .alignedReady | .inService => s.localOutage = false ∧ s.remoteOutage = false
  | .alignedNotReady => s.localOutage = true ∧ s.remoteOutage = false
  | .processorOutage => s.localOutage = true ∨ s.remoteOutage = true
  | .powerOff | .outOfService | .notAligned | .aligned | .proving => s.remoteOutage = false

/-- The monitor and proving counters (10_state.md R34 to R37; 44_error_monitor.md R352, R356 to R358). -/
structure CounterInv (s : State) : Prop where
  tries : s.provingTry ≤ 4
  proving : s.provingErrors ≤ 3
  errors : s.monitorErrors ≤ 15
  good : s.monitorGood ≤ 255
  idle : s.state.inServiceGroup = false → s.monitorErrors = 0 ∧ s.monitorGood = 0
  beforeProving : s.state.inServiceGroup = false → s.state ≠ .proving →
    s.provingErrors = 0 ∧ s.provingTry = 0
  further : s.furtherProving = true → s.state = .proving

/-- Outside the in-service group the sequence state is at its Stop values: only SeqRx, AcceptMsu, Select and the BIB
inversion change it (10_state.md R27 to R32). -/
def sequenceFits (s : State) : Prop :=
  s.state.inServiceGroup = false →
    s.txSeq = Config.seqReset ∧ s.rxSeq = Config.seqReset ∧ s.txQueueSeq = Config.seqReset ∧
      s.fib = true ∧ s.bib = true ∧ s.txNack = false

/-- The transmitter (10_state.md R41): a built frame has at least 5 bytes and at most 6 + TX_MAX_DATA; in the DATA
phase a bit is still due. -/
structure TxInv (s : State) : Prop where
  length : s.tx.len = s.tx.buf.length
  longest : s.tx.len ≤ 6 + s.params.txMaxData
  frame : s.tx.haveFrame = true → 5 ≤ s.tx.len ∧ s.state ≠ .powerOff
  ones : s.tx.ones ≤ 5
  data : s.tx.phase = .data → s.tx.haveFrame = true ∧ s.tx.flagIdx = 0 ∧ s.tx.pos ≤ 8 * s.tx.len ∧
    (s.tx.pos = 8 * s.tx.len → s.tx.ones = 5)

/-- The receiver (10_state.md R42). -/
structure RxInv (s : State) : Prop where
  stored : s.rx.nbits = s.rx.bits.length
  longest : s.rx.nbits ≤ 8 * s.params.rxMaxBytes + 7
  hunting : s.rx.inFrame = false → s.rx.bits = []
  count : s.rx.ocBits ≤ 127
  idle : s.rx.ocActive = false → s.rx.ocBits = 0
  run : s.rx.flagRun ≤ max s.params.flagLimit 1

/-- The invariant of the state record. -/
structure State.Inv (s : State) : Prop where
  params : s.params.wf = true
  queue : QueueInv s
  timers : TimerInv s
  lssu : lssuFits s
  outage : outageFits s
  counters : CounterInv s
  sequence : sequenceFits s
  tx : TxInv s
  rx : RxInv s

/-! ### Tables of the spec -/

/-- The state-by-event matrix (40_fsm.md R211): the row that an event matches in a state. -/
def fsmMatrix (ev : Event) (st : LinkState) : Option Nat :=
  let col (poff oos na al pr ar anr is po : Option Nat) : Option Nat :=
    match st with
    | .powerOff => poff | .outOfService => oos | .notAligned => na | .aligned => al | .proving => pr
    | .alignedReady => ar | .alignedNotReady => anr | .inService => is | .processorOutage => po
  let x : Option Nat := none
  match ev with
  | .powerOn => some 1
  | .start => col x (some 5) x x x x x x x
  | .stop => some 2
  | .emergency => some 3
  | .emergencyCeases => some 4
  | .localProcessorOutage =>
    col (some 40) (some 40) (some 40) (some 40) (some 40) (some 35) (some 40) (some 37) (some 38)
  | .localProcessorRecovered =>
    col (some 41) (some 41) (some 41) (some 41) (some 41) (some 41) (some 36) (some 41) (some 39)
  | .sioRx => col x x (some 6) x (some 16) (some 21) (some 21) (some 21) (some 21)
  | .sinRx => col x x (some 7) (some 10) x x x (some 22) (some 22)
  | .sieRx => col x x (some 8) (some 11) x x x (some 23) (some 23)
  | .siosRx => col x x x (some 12) (some 17) (some 24) (some 24) (some 24) (some 24)
  | .sipoRx => col x x x x x (some 25) (some 25) (some 25) (some 26)
  | .sibRx => x
  | .fisuRx => col x x x x x (some 27) (some 29) (some 31) (some 33)
  | .msuRx => col x x x x x (some 28) (some 30) (some 32) (some 34)
  | .correctSu => col x x x x (some 14) x x x x
  | .badFrame => x
  | .octetCountErr => x
  | .abortProving => col x x x x (some 15) x x x x
  | .linkFailure => col x x x x x (some 19) (some 19) (some 19) (some 19)
  | .t1Timeout => col x x x x x (some 20) (some 20) x x
  | .t2Timeout => col x x (some 9) x x x x x x
  | .t3Timeout => col x x x (some 13) x x x x x
  | .t4Timeout => col x x x x (some 18) x x x x
  | .reserved7 | .reserved14 | .reserved15 | .reserved27 | .reserved28 | .reserved29 | .reserved30
  | .reserved31 => x

/-- The ILLEGAL command words, from the operand column of 30_encoding.md R101 read as numbers (R103). -/
def illegalCommandWord (w : CommandWord) : Bool :=
  let op := w.toNat / 4096
  let operand := w.toNat % 4096
  match op with
  | 0 | 2 | 3 => operand != 0
  | 1 => operand / 2 != 0
  | 4 => operand / 32 != 0
  | 5 => operand / 256 != 0
  | _ => true

/-- The kinds of response of a command word (30_encoding.md R106). -/
def responseFits (w : CommandWord) (r : Response) : Prop :=
  if illegalCommandWord w then r = .illegal
  else
    match w.toNat / 4096 with
    | 0 | 1 | 3 => r = .ok
    | 2 => ∃ b, r = .bit b
    | 4 => r = .matched ∨ r = .ignored
    | _ => ∃ c, r = .enq c

/-- The number of failures an operation reported: OUT_OF_SERVICE indications after the first `n`. -/
def failuresAfter (n : Nat) (t : State) : Nat :=
  (t.indOut.drop n).countP fun x => match x with | .outOfService _ => true | _ => false

/-- The EVENT operation of a timer's expiry (30_encoding.md R104). -/
def timeoutInstr : TimerId → Instr
  | .t1 => .eventT1Timeout
  | .t2 => .eventT2Timeout
  | .t3 => .eventT3Timeout
  | .t4 => .eventT4Timeout

/-! ### Pictures of an operation -/

/-- What a FISU or MSU received in a state of the in-service group changes before its sequence processing: T1, the state,
the outage check and the indications (R188 to R194, R200, R201). -/
def linkChangeOnFrame (s : State) : State :=
  match s.state with
  | .alignedReady => { s with t1 := ⟨false, 0⟩, state := .inService, indOut := s.indOut ++ [.inService] }
  | .alignedNotReady => { s with t1 := ⟨false, 0⟩, state := .processorOutage, indOut := s.indOut ++ [.inService] }
  | .processorOutage =>
    if s.remoteOutage = false then s
    else if s.localOutage then { s with remoteOutage := false }
    else { s with remoteOutage := false, state := .inService, txLssu := none,
                  indOut := s.indOut ++ [.remoteProcessorRecovered] }
  | .powerOff | .outOfService | .notAligned | .aligned | .proving | .inService => s

/-- What the start of a flag leaves when a frame of this body is built, and BIB was inverted if `tx_nack` was set (R242,
R243, R71): the CRC of the parameter's function (R244; log entry 7) goes low byte first. -/
def frameStarted (s : State) (body : List Byte) : State :=
  { s with
    bib := s.bib ^^ s.txNack
    txNack := false
    tx := { s.tx with
      flagIdx := 1, haveFrame := true
      buf := body ++
        [(crc16 s.params.crc16 body).extractLsb' 0 8, (crc16 s.params.crc16 body).extractLsb' 8 8]
      len := body.length + 2 }
    responses := s.responses ++ [.bit false] }

/-- What RX_BIT leaves when it raises no event: the bit shifted in and counted in octet-counting mode, the receiver
otherwise as given, and OK answered (R270 to R272). -/
def bitReceived (b : Bool) (s : State) (f : RxState → RxState) : State :=
  { s with
    rx := f { s.rx with
      sr := BitVec.ofBool b ++ s.rx.sr.extractLsb' 1 7
      ocBits := if s.rx.ocActive then s.rx.ocBits + 1 else s.rx.ocBits }
    responses := s.responses ++ [.ok] }

/-- The receiver after a flag: a new frame is open with no bits stored, and the octet count has restarted (R273). -/
def afterFlag (r : RxState) : RxState :=
  { r with sr := 0x7E, inFrame := true, bits := [], nbits := 0, ocBits := if r.ocActive then 0 else r.ocBits }

/-- A flag is completed by bit `b`, and no octet-count window with it. -/
def completesFlag (b : Bool) (s : State) : Prop :=
  BitVec.ofBool b ++ s.rx.sr.extractLsb' 1 7 = (0x7E : Byte) ∧ ¬(s.rx.ocActive = true ∧ s.rx.ocBits = 127)

/-- The receiver holds the bits of the frame `f` and the first seven bits of the closing flag (R274, R280). -/
def holdsFrame (s : State) (f : List Byte) : Prop :=
  s.rx.inFrame = true ∧ s.rx.bits = frameBits f ++ [false, true, true, true, true, true, true] ∧
    s.rx.nbits = s.rx.bits.length

/-- The checks of a received frame (R279, R281, R283): at least 5 bytes, the CRC of the function `c` over the
bytes before it low byte first, and a length indicator (bits 5:0 of byte 2) that is the payload length, or 63 for 63 and more. -/
def passesChecks (c : Config.Crc16) (f : List Byte) : Prop :=
  5 ≤ f.length ∧
  f.drop (f.length - 2) =
    [(crc16 c (f.take (f.length - 2))).extractLsb' 0 8, (crc16 c (f.take (f.length - 2))).extractLsb' 8 8] ∧
  (f.getD 2 0).toNat % 64 = min (f.length - 5) 63

end Sys2Proof.Machine
end

