-- ==== Sys2Proof/Certificates/Slice0/Obligations.lean ====
section
/-! DEFINITION. The statements about the block, one definition each (OBLIGATIONS.json lists them). A statement about
exec names the whole next state, so it is also the frame of the operation: whatever the record does not name keeps
its value. -/

open Sys2Proof Sys2Proof.Machine

/-! ### Decoding and stepping -/

/-- R100, R101, R104, R105: decoding the encoding of any operation gives that operation, with every operand at every
value. -/
def Obligations.DecodeOfEncode : Prop := ∀ i : Instr, decode (encode i) = .ok i

/-- R100, R101, R104, R105: a well-formed command that decodes is the encoding of the operation it decodes to. -/
def Obligations.EncodeOfDecode : Prop :=
  ∀ (c : Command) (i : Instr), c.wf = true → decode c = .ok i → encode i = c

/-- Words written out from R101, R104 and R130 decode to the operations they stand for. -/
def Obligations.SampleWordsDecode : Prop :=
  decode (.ofWord 0x0000) = .ok .nop ∧
  decode (.ofWord 0x1001) = .ok (.rxBit true) ∧
  decode (.ofWord 0x2000) = .ok .txBit ∧
  decode (.ofWord 0x3000) = .ok .timerTick ∧
  decode (.ofWord 0x4001) = .ok .eventStart ∧
  decode ⟨0x4011, ⟨127, true, 0, true, 0x83, [0xAA, 0xBB]⟩, []⟩ =
    .ok (.eventMsuRx ⟨127, true, 0, true, 0x83, [0xAA, 0xBB]⟩) ∧
  decode ⟨0x50CD, EventArg.empty, [1, 2]⟩ = .ok (.enqueue 0xCD [1, 2]) ∧
  decode (.ofWord 0xF123) = .ok (.reservedOpF 0x123) ∧
  decode (.ofWord 0x4020) = .error (.reservedOperandBits 4)

/-- R2, R80: a step takes the next command from the stream and runs the operation it decodes to; with nothing
presented it runs NOP (R102; log entries 1 and 4). -/
def Obligations.StepRunsDecodedOperation : Prop :=
  (∀ (s : State) (c : Command) (rest : List Command) (i : Instr),
    s.cmds = c :: rest → decode c = .ok i → step s = exec i { s with cmds := rest }) ∧
  ∀ s : State, s.cmds = [] → step s = exec .nop s

/-- R103: "An ILLEGAL word changes no state, appends no indication and responds `ILLEGAL`." Every word whose op is 6 to
15, or with a 1 in a reserved operand bit, is one. -/
def Obligations.IllegalWordOnlyAnswersIllegal : Prop :=
  ∀ (s : State) (c : Command) (rest : List Command), s.cmds = c :: rest → illegalCommandWord c.word = true →
    step s = .next { s with cmds := rest, responses := s.responses ++ [.illegal] }

/-- R106: every operation completes with exactly one response, of the kind its command word has, and a legal word never
answers ILLEGAL; nothing in the block stops it (60_exceptions.md R400). That a step with nothing presented answers one
OK is the model's choice (log entry 4). -/
def Obligations.EveryOperationAnswersOnce : Prop :=
  (∀ (s : State) (c : Command) (rest : List Command), s.cmds = c :: rest →
    ∃ t r, step s = .next t ∧ t.cmds = rest ∧ t.responses = s.responses ++ [r] ∧ responseFits c.word r) ∧
  ∀ s : State, s.cmds = [] → ∃ t, step s = .next t ∧ t.cmds = [] ∧ t.responses = s.responses ++ [.ok]

/-! ### Reset and invariants -/

/-- R59, R440: every element's value after hardware reset. -/
def Obligations.ResetValues : Prop :=
  let s := State.reset
  s.state = .powerOff ∧ s.txLssu = some 3 ∧
  s.localEmergency = false ∧ s.remoteEmergency = false ∧ s.localOutage = false ∧ s.remoteOutage = false ∧
  s.txSeq = 127 ∧ s.rxSeq = 127 ∧ s.txQueueSeq = 127 ∧ s.fib = true ∧ s.bib = true ∧
  s.txNack = false ∧ s.furtherProving = false ∧
  s.provingTry = 0 ∧ s.provingErrors = 0 ∧ s.monitorErrors = 0 ∧ s.monitorGood = 0 ∧ s.queue = [] ∧
  (∀ n, getTimer n s = ⟨false, 0⟩) ∧
  s.tx = ⟨.flag, 0, false, [], 0, 0, 0⟩ ∧ s.rx = ⟨0x00, false, 0, [], false, 0, 0⟩ ∧ s.indOut = [] ∧
  s.rate64k = decide (64000 ≤ Config.bitrate) ∧ s.ignoreMonitor = Config.ignoreMonitorInput

/-- The invariant of the state record holds at reset. -/
def Obligations.ResetMeetsInvariant : Prop := State.reset.Inv

/-- Every step from a state that meets the invariant gives a state that meets it (R34 to R42, R45, R47, R252, R357,
R358). -/
def Obligations.StepKeepsInvariant : Prop := ∀ s t : State, s.Inv → step s = .next t → t.Inv

/-- R47: "At most one of `t_armed[1..4]` is 1 after any operation", and each only in its states. -/
def Obligations.AtMostOneTimerArmed : Prop :=
  ∀ s t : State, s.Inv → step s = .next t →
    (∀ n m, (getTimer n t).armed = true → (getTimer m t).armed = true → n = m) ∧
    (t.t2.armed = true → t.state = .notAligned) ∧ (t.t3.armed = true → t.state = .aligned) ∧
    (t.t4.armed = true → t.state = .proving) ∧
    (t.t1.armed = true → t.state = .alignedReady ∨ t.state = .alignedNotReady)

/-- R45: entry sequence numbers are consecutive modulo 128 from head to tail, and the tail's equals `tx_queue_seq`. -/
def Obligations.QueueNumbersConsecutive : Prop :=
  ∀ s t : State, s.Inv → step s = .next t →
    (∀ (pre : List Entry) (e e' : Entry) (post : List Entry), t.queue = pre ++ e :: e' :: post → e'.seq = e.seq + 1) ∧
    ∀ (pre : List Entry) (e : Entry), t.queue = pre ++ [e] → e.seq = t.txQueueSeq

/-- R6, R43: the configuration is sampled at reset and constant until the next reset; R443: so are the parameters (their
place in State is the model's choice, log entry 5). -/
def Obligations.ConfigurationIsConstant : Prop :=
  ∀ s t : State, step s = .next t →
    t.rate64k = s.rate64k ∧ t.ignoreMonitor = s.ignoreMonitor ∧ t.params = s.params

/-- R58, R405: indications are only appended. -/
def Obligations.IndicationsOnlyAppended : Prop := ∀ s t : State, step s = .next t → s.indOut <+: t.indOut

/-- R206, R418: no step enters POWER_OFF, and it is left only into OUT_OF_SERVICE, by POWER_ON or STOP. -/
def Obligations.PowerOffLeftOnceByPowerOnOrStop : Prop :=
  (∀ s t : State, step s = .next t → t.state = .powerOff → s.state = .powerOff) ∧
  ∀ (s t : State) (i : Instr), s.state = .powerOff → exec i s = .next t → t.state ≠ .powerOff →
    t.state = .outOfService ∧ (i = .eventPowerOn ∨ i = .eventStop)

/-- R408: at most one failure per operation; after a failure the state is OOS, and only START leaves OOS. -/
def Obligations.AtMostOneFailureAndOnlyStartLeavesOos : Prop :=
  ∀ (s t : State) (i : Instr), exec i s = .next t →
    failuresAfter s.indOut.length t ≤ 1 ∧
    (failuresAfter s.indOut.length t = 1 → t.state = .outOfService) ∧
    (s.state = .outOfService → t.state ≠ .outOfService → i = .eventStart)

/-- R289: "RX_BIT never reads transmitter state and TX_BIT never reads receiver state", nor do they write it. -/
def Obligations.ReceiverAndTransmitterIndependent : Prop :=
  (∀ (b : Bool) (s t : State) (x : TxState), exec (.rxBit b) s = .next t →
    t.tx = s.tx ∧ exec (.rxBit b) { s with tx := x } = .next { t with tx := x }) ∧
  ∀ (s t : State) (x : RxState), exec .txBit s = .next t →
    t.rx = s.rx ∧ exec .txBit { s with rx := x } = .next { t with rx := x }

/-! ### NOP, reserved operations and reserved events -/

/-- R102: NOP writes no state and responds OK. -/
def Obligations.NopOnlyAnswersOk : Prop :=
  encodeWord .nop = 0x0000 ∧
  ∀ s : State, exec .nop s = .next { s with responses := s.responses ++ [.ok] }

/-- R103, R404: the reserved operations 6 to 15 change nothing and answer ILLEGAL, whatever their operand. -/
def Obligations.ReservedOperationsAnswerIllegal : Prop :=
  ∀ (x : BitVec 12) (s : State),
    ∀ i ∈ [Instr.reservedOp6 x, .reservedOp7 x, .reservedOp8 x, .reservedOp9 x, .reservedOpA x, .reservedOpB x,
      .reservedOpC x, .reservedOpD x, .reservedOpE x, .reservedOpF x],
      exec i s = .next { s with responses := s.responses ++ [.illegal] }

/-- R140, R142, R187: the reserved event codes, and SIB_RX, match no row and feed no monitor: nothing changes and the
answer is IGNORED, in every state. -/
def Obligations.ReservedEventsAndSibIgnored : Prop :=
  ∀ s : State,
    ∀ i ∈ [Instr.eventReserved7, .eventReserved14, .eventReserved15, .eventReserved27, .eventReserved28,
      .eventReserved29, .eventReserved30, .eventReserved31, .eventSibRx],
      exec i s = .next { s with responses := s.responses ++ [.ignored] }

/-! ### The FSM -/

/-- R211: the state-by-event matrix is what first match over the table of R143 gives. -/
def Obligations.FirstMatchGivesMatrix : Prop :=
  ∀ (ev : Event) (st : LinkState), (matchingRow ev st).map Row.number = fsmMatrix ev st

/-- R149, R151, R152: what the Stop action writes, and that it writes nothing else; POWER_ON and STOP run it in every
state and report nothing. -/
def Obligations.PowerOnAndStopRunTheStopAction : Prop :=
  encodeWord .eventPowerOn = 0x4000 ∧ encodeWord .eventStop = 0x4002 ∧
  ∀ s : State,
    stop s =
      { s with
        queue := [], txLssu := some 3, t1 := ⟨false, 0⟩, t2 := ⟨false, 0⟩, t3 := ⟨false, 0⟩, t4 := ⟨false, 0⟩,
        txSeq := 127, rxSeq := 127, txQueueSeq := 127, fib := true, bib := true, txNack := false, provingErrors := 0,
        monitorErrors := 0, monitorGood := 0, provingTry := 0, furtherProving := false, remoteEmergency := false,
        remoteOutage := false, state := .outOfService } ∧
    exec .eventPowerOn s = .next { stop s with responses := s.responses ++ [.matched] } ∧
    exec .eventStop s = .next { stop s with responses := s.responses ++ [.matched] }

/-- R150: the failure action is Stop, then the OUT_OF_SERVICE indication with the cause, of number 1 to 6 (R401). -/
def Obligations.FailureActionStopsAndReports : Prop :=
  ∀ (c : Cause) (s : State),
    fail c s = { stop s with indOut := s.indOut ++ [.outOfService c] } ∧ 1 ≤ c.number ∧ c.number ≤ 6

/-- R153, R154: EMERGENCY sets and EMERGENCY_CEASES clears `local_emergency`, in every state, and nothing else. -/
def Obligations.EmergencyEventsWriteTheFlag : Prop :=
  encodeWord .eventEmergency = 0x4003 ∧ encodeWord .eventEmergencyCeases = 0x4004 ∧
  ∀ s : State,
    exec .eventEmergency s = .next { s with localEmergency := true, responses := s.responses ++ [.matched] } ∧
    exec .eventEmergencyCeases s = .next { s with localEmergency := false, responses := s.responses ++ [.matched] }

/-- R155: START in OUT_OF_SERVICE sends SIO, arms T2 and goes to NOT_ALIGNED; in any other state it is ignored. -/
def Obligations.StartBeginsAlignment : Prop :=
  encodeWord .eventStart = 0x4001 ∧
  ∀ s : State, exec .eventStart s = .next (
    if s.state = .outOfService then
      { s with txLssu := some 0, t2 := ⟨true, perRate s s.params.t2Dur⟩, state := .notAligned,
               responses := s.responses ++ [.matched] }
    else { s with responses := s.responses ++ [.ignored] })

/-- R156, R172, R182: SIO received, in each state. -/
def Obligations.SioReceived : Prop :=
  encodeWord .eventSioRx = 0x4008 ∧
  ∀ s : State, exec .eventSioRx s = .next (
    match s.state with
    | .notAligned =>
      { s with t2 := ⟨false, 0⟩, txLssu := some (if s.localEmergency then 2 else 1),
               t3 := ⟨true, perRate s s.params.t3Dur⟩, state := .aligned, responses := s.responses ++ [.matched] }
    | .proving => { fail .provingFailureRemote s with responses := s.responses ++ [.matched] }
    | .alignedReady | .alignedNotReady | .inService | .processorOutage =>
      { fail .linkFailureRemote s with responses := s.responses ++ [.matched] }
    | .powerOff | .outOfService | .aligned => { s with responses := s.responses ++ [.ignored] })

/-- R157, R161, R184, R186: SIN received, in each state. T4 takes the emergency duration when `local_emergency` is 1. -/
def Obligations.SinReceived : Prop :=
  encodeWord .eventSinRx = 0x4009 ∧
  ∀ s : State, exec .eventSinRx s = .next (
    match s.state with
    | .notAligned =>
      { s with t2 := ⟨false, 0⟩, remoteEmergency := false, txLssu := some (if s.localEmergency then 2 else 1),
               t3 := ⟨true, perRate s s.params.t3Dur⟩, state := .aligned, responses := s.responses ++ [.matched] }
    | .aligned =>
      { s with t3 := ⟨false, 0⟩, remoteEmergency := false, provingTry := 0, provingErrors := 0, furtherProving := false,
               t4 := ⟨true, perRate s (if s.localEmergency then s.params.t4eDur else s.params.t4nDur)⟩,
               state := .proving, responses := s.responses ++ [.matched] }
    | .inService | .processorOutage => { fail .linkFailureRemote s with responses := s.responses ++ [.matched] }
    | .powerOff | .outOfService | .proving | .alignedReady | .alignedNotReady =>
      { s with responses := s.responses ++ [.ignored] })

/-- R158, R162, R185, R186: SIE received, in each state. T4 always takes the emergency duration. -/
def Obligations.SieReceived : Prop :=
  encodeWord .eventSieRx = 0x400A ∧
  ∀ s : State, exec .eventSieRx s = .next (
    match s.state with
    | .notAligned =>
      { s with t2 := ⟨false, 0⟩, remoteEmergency := true, txLssu := some (if s.localEmergency then 2 else 1),
               t3 := ⟨true, perRate s s.params.t3Dur⟩, state := .aligned, responses := s.responses ++ [.matched] }
    | .aligned =>
      { s with t3 := ⟨false, 0⟩, remoteEmergency := true, provingTry := 0, provingErrors := 0, furtherProving := false,
               t4 := ⟨true, perRate s s.params.t4eDur⟩, state := .proving, responses := s.responses ++ [.matched] }
    | .inService | .processorOutage => { fail .linkFailureRemote s with responses := s.responses ++ [.matched] }
    | .powerOff | .outOfService | .proving | .alignedReady | .alignedNotReady =>
      { s with responses := s.responses ++ [.ignored] })

/-- R163, R174, R183: SIOS received, in each state. -/
def Obligations.SiosReceived : Prop :=
  encodeWord .eventSiosRx = 0x400B ∧
  ∀ s : State, exec .eventSiosRx s = .next (
    match s.state with
    | .aligned | .proving => { fail .provingFailureRemote s with responses := s.responses ++ [.matched] }
    | .alignedReady | .alignedNotReady | .inService | .processorOutage =>
      { fail .linkFailureRemote s with responses := s.responses ++ [.matched] }
    | .powerOff | .outOfService | .notAligned => { s with responses := s.responses ++ [.ignored] })

/-- R190, R199: SIPO received, in each state. A remote outage is reported once. -/
def Obligations.SipoReceived : Prop :=
  encodeWord .eventSipoRx = 0x400C ∧
  ∀ s : State, exec .eventSipoRx s = .next (
    match s.state with
    | .alignedReady | .alignedNotReady | .inService =>
      { s with t1 := ⟨false, 0⟩, remoteOutage := true, state := .processorOutage,
               indOut := s.indOut ++ [.remoteProcessorOutage], responses := s.responses ++ [.matched] }
    | .processorOutage =>
      { s with remoteOutage := true,
               indOut := if s.remoteOutage then s.indOut else s.indOut ++ [.remoteProcessorOutage],
               responses := s.responses ++ [.matched] }
    | .powerOff | .outOfService | .notAligned | .aligned | .proving =>
      { s with responses := s.responses ++ [.ignored] })

/-- R196, R198, R202, R204: LOCAL_PROCESSOR_OUTAGE, in each state. -/
def Obligations.LocalOutageReported : Prop :=
  encodeWord .eventLocalProcessorOutage = 0x4005 ∧
  ∀ s : State, exec .eventLocalProcessorOutage s = .next (
    match s.state with
    | .alignedReady =>
      { s with localOutage := true, txLssu := some 4, state := .alignedNotReady, responses := s.responses ++ [.matched] }
    | .inService | .processorOutage =>
      { s with localOutage := true, txLssu := some 4, state := .processorOutage, responses := s.responses ++ [.matched] }
    | .powerOff | .outOfService | .notAligned | .aligned | .proving | .alignedNotReady =>
      { s with localOutage := true, responses := s.responses ++ [.matched] })

/-- R197, R203, R205: LOCAL_PROCESSOR_RECOVERED, in each state. -/
def Obligations.LocalRecoveryReported : Prop :=
  encodeWord .eventLocalProcessorRecovered = 0x4006 ∧
  ∀ s : State, exec .eventLocalProcessorRecovered s = .next (
    match s.state with
    | .alignedNotReady =>
      { s with localOutage := false, txLssu := none, state := .alignedReady, responses := s.responses ++ [.matched] }
    | .processorOutage =>
      if s.remoteOutage then
        { s with localOutage := false, txLssu := none, responses := s.responses ++ [.matched] }
      else
        { s with localOutage := false, txLssu := none, state := .inService,
                 indOut := s.indOut ++ [.remoteProcessorRecovered], responses := s.responses ++ [.matched] }
    | .powerOff | .outOfService | .notAligned | .aligned | .proving | .alignedReady | .inService =>
      { s with localOutage := false, responses := s.responses ++ [.matched] })

/-- R188, R191, R193, R195, R200: FISU received: in the in-service group the link change, then AckOrNack with the
frame's BSN and BIB; elsewhere ignored. -/
def Obligations.FisuReceived : Prop :=
  (∀ a, encodeWord (.eventFisuRx a) = 0x4010) ∧
  ∀ (a : EventArg) (s : State), exec (.eventFisuRx a) s = .next (
    if s.state.inServiceGroup then
      { ackOrNack a.bsn a.bib (linkChangeOnFrame s) with responses := s.responses ++ [.matched] }
    else { s with responses := s.responses ++ [.ignored] })

/-- R189, R192, R194, R195, R201: MSU received: as a FISU, then the acceptance of the message. -/
def Obligations.MsuReceived : Prop :=
  (∀ a, encodeWord (.eventMsuRx a) = 0x4011) ∧
  ∀ (a : EventArg) (s : State), exec (.eventMsuRx a) s = .next (
    if s.state.inServiceGroup then
      { acceptMsu a (ackOrNack a.bsn a.bib (linkChangeOnFrame s)) with
        responses := s.responses ++ [.matched] }
    else { s with responses := s.responses ++ [.ignored] })

/-- R171: the abort of proving counts the try, and fails the link at the fifth; outside PROVING it is ignored. -/
def Obligations.AbortProvingCountsTries : Prop :=
  encodeWord .eventAbortProving = 0x4015 ∧
  ∀ s : State, exec .eventAbortProving s = .next (
    if s.state = .proving then
      if s.provingTry + 1 = 5 then { fail .provingFailureLocal s with responses := s.responses ++ [.matched] }
      else { s with provingTry := s.provingTry + 1, furtherProving := true, provingErrors := 0,
                    responses := s.responses ++ [.matched] }
    else { s with responses := s.responses ++ [.ignored] })

/-- R159, R164, R180, R181: LINK_FAILURE and the expiries of T1, T2 and T3 fail the link in their states, each with its
cause, and are ignored elsewhere. -/
def Obligations.FailureEventsFailTheLink : Prop :=
  encodeWord .eventLinkFailure = 0x4016 ∧ encodeWord .eventT1Timeout = 0x4017 ∧
  encodeWord .eventT2Timeout = 0x4018 ∧ encodeWord .eventT3Timeout = 0x4019 ∧
  ∀ s : State,
    exec .eventLinkFailure s = .next (
      if s.state.inServiceGroup then { fail .linkFailureLocal s with responses := s.responses ++ [.matched] }
      else { s with responses := s.responses ++ [.ignored] }) ∧
    exec .eventT1Timeout s = .next (
      if s.state = .alignedReady ∨ s.state = .alignedNotReady then
        { fail .linkFailureLocal s with responses := s.responses ++ [.matched] }
      else { s with responses := s.responses ++ [.ignored] }) ∧
    exec .eventT2Timeout s = .next (
      if s.state = .notAligned then { fail .alignmentTimeout s with responses := s.responses ++ [.matched] }
      else { s with responses := s.responses ++ [.ignored] }) ∧
    exec .eventT3Timeout s = .next (
      if s.state = .aligned then { fail .provingTimeout s with responses := s.responses ++ [.matched] }
      else { s with responses := s.responses ++ [.ignored] })

/-- R173: T4 expiry in PROVING: a new proving period when further proving is pending, else the alignment completes, into
ALIGNED_NOT_READY with a local outage and ALIGNED_READY without, and T1 is armed. The new proving period is PRESUMED (log
entry 19): R173 marks it "[from general knowledge, not in source]". -/
def Obligations.T4ExpiryEndsOrRestartsProving : Prop :=
  encodeWord .eventT4Timeout = 0x401A ∧
  ∀ s : State, exec .eventT4Timeout s = .next (
    if s.state = .proving then
      if s.furtherProving then
        { s with furtherProving := false, provingErrors := 0,
                 t4 := ⟨true, perRate s (if s.localEmergency || s.remoteEmergency then s.params.t4eDur
                   else s.params.t4nDur)⟩,
                 responses := s.responses ++ [.matched] }
      else
        { s with t4 := ⟨false, 0⟩, t1 := ⟨true, perRate s s.params.t1Dur⟩,
                 txLssu := if s.localOutage then some 4 else none,
                 state := if s.localOutage then .alignedNotReady else .alignedReady,
                 responses := s.responses ++ [.matched] }
    else { s with responses := s.responses ++ [.ignored] })

/-! ### The error monitors -/

/-- R170, R350, R351, R354, R355: CORRECT_SU clears `further_proving` in PROVING, and counts a good frame in the
in-service group: the 256th of a run takes one from `monitor_errors`, not below 0. -/
def Obligations.CorrectSuCountsGoodFrames : Prop :=
  encodeWord .eventCorrectSu = 0x4012 ∧
  ∀ s : State, exec .eventCorrectSu s = .next (
    if s.state = .proving then { s with furtherProving := false, responses := s.responses ++ [.matched] }
    else if s.state.inServiceGroup = true ∧ s.ignoreMonitor = false then
      if s.monitorGood = 255 then
        { s with monitorGood := 0, monitorErrors := if 0 < s.monitorErrors then s.monitorErrors - 1 else 0,
                 responses := s.responses ++ [.ignored] }
      else { s with monitorGood := s.monitorGood + 1, responses := s.responses ++ [.ignored] }
    else { s with responses := s.responses ++ [.ignored] })

/-- R350 to R353, R356, R357: BAD_FRAME and OCTET_COUNT_ERR count one bad event: in PROVING up to Ti, which aborts the
proving; in the in-service group up to 16, which fails the link; elsewhere, and with IGNORE_MONITOR, nothing. -/
def Obligations.BadEventsReachTheThresholds : Prop :=
  ∀ s : State, ∀ i ∈ [Instr.eventBadFrame, .eventOctetCountErr], exec i s = .next (
    if s.ignoreMonitor then { s with responses := s.responses ++ [.ignored] }
    else if s.state = .proving then
      if (if s.localEmergency || s.remoteEmergency then 1 else 4) ≤ s.provingErrors + 1 then
        if s.provingTry + 1 = 5 then { fail .provingFailureLocal s with responses := s.responses ++ [.ignored] }
        else { s with provingTry := s.provingTry + 1, furtherProving := true, provingErrors := 0,
                      responses := s.responses ++ [.ignored] }
      else { s with provingErrors := s.provingErrors + 1, responses := s.responses ++ [.ignored] }
    else if s.state.inServiceGroup then
      if 16 ≤ s.monitorErrors + 1 then { fail .linkFailureLocal s with responses := s.responses ++ [.ignored] }
      else { s with monitorGood := 0, monitorErrors := s.monitorErrors + 1, responses := s.responses ++ [.ignored] }
    else { s with responses := s.responses ++ [.ignored] })

/-- The link failure scenario of 95_test_vectors.md E7, for every state of the in-service group whose monitor runs and
has counted no error: 16 BAD_FRAME events fail the link once, with cause 2 and an empty queue, and 15 do not. -/
def Obligations.SixteenBadFramesFailTheLink : Prop :=
  ∀ s : State, s.state.inServiceGroup = true → s.ignoreMonitor = false → s.monitorErrors = 0 →
    execAll (List.replicate 15 .eventBadFrame) s = .next
      { s with monitorGood := 0, monitorErrors := 15, responses := s.responses ++ List.replicate 15 .ignored } ∧
    execAll (List.replicate 16 .eventBadFrame) s = .next
      { stop s with indOut := s.indOut ++ [.outOfService .linkFailureLocal],
                    responses := s.responses ++ List.replicate 16 .ignored }

/-! ### Timers -/

/-- R370: a TIMER_TICK at which no timer expires takes 1 from every armed timer and changes nothing else. -/
def Obligations.TickCountsArmedTimersDown : Prop :=
  ∀ s : State, (∀ n, (getTimer n s).armed = true → 2 ≤ (getTimer n s).count) →
    exec .timerTick s = .next
      { s with
        t1 := if s.t1.armed then ⟨true, s.t1.count - 1⟩ else s.t1
        t2 := if s.t2.armed then ⟨true, s.t2.count - 1⟩ else s.t2
        t3 := if s.t3.armed then ⟨true, s.t3.count - 1⟩ else s.t3
        t4 := if s.t4.armed then ⟨true, s.t4.count - 1⟩ else s.t4
        responses := s.responses ++ [.ok] }

/-- R146, R370: the last tick of the one armed timer disarms it and does what presenting its timeout event does: "A row
does not know where its event came from." -/
def Obligations.ExpiryActsAsTheTimeoutEvent : Prop :=
  ∀ (n : TimerId) (s : State), getTimer n s = ⟨true, 1⟩ → (∀ m, m ≠ n → (getTimer m s).armed = false) →
    ∃ u, exec (timeoutInstr n) (setTimer n ⟨false, 0⟩ s) = .next u ∧
      exec .timerTick s = .next { u with responses := s.responses ++ [.ok] }

/-! ### Transmitter -/

/-- R240, R246, R251: the bits of a flag are 0, six 1s, 0, never stuffed and not counted; in POWER_OFF a flag starts with
no frame built; after its last bit a frame that was built begins, else another flag. -/
def Obligations.TxBitSendsFlags : Prop :=
  ∀ s : State, s.tx.phase = .flag →
    (s.tx.flagIdx = 0 → ∃ t, exec .txBit s = .next t ∧ t.responses = s.responses ++ [.bit false] ∧
      t.tx.phase = .flag ∧ t.tx.flagIdx = 1 ∧ t.tx.ones = s.tx.ones) ∧
    (s.tx.flagIdx = 0 → s.state = .powerOff → exec .txBit s = .next
      { s with tx := { s.tx with flagIdx := 1, haveFrame := false }, responses := s.responses ++ [.bit false] }) ∧
    (s.tx.flagIdx ≠ 0 → exec .txBit s = .next
      { s with
        tx := if s.tx.flagIdx = 7 then
            if s.tx.haveFrame then { s.tx with flagIdx := 0, phase := .data, pos := 0, ones := 0 }
            else { s.tx with flagIdx := 0 }
          else { s.tx with flagIdx := s.tx.flagIdx + 1 }
        responses := s.responses ++ [.bit (decide (s.tx.flagIdx ≠ 7))] })

/-- R242, R243, R121: at the first bit of a flag, with an LSSU due, the LSSU is built: BIB and BSN, FIB and FSN, LI 1,
the status, the CRC, which is that of the state's parameter CRC16, the default or any other function (log entry 7). -/
def Obligations.TxBitBuildsLssu : Prop :=
  ∀ (s : State) (status : LssuStatus), s.tx.phase = .flag → s.tx.flagIdx = 0 → s.state ≠ .powerOff →
    s.txLssu = some status →
    exec .txBit s = .next (frameStarted s
      [BitVec.ofBool (s.bib ^^ s.txNack) ++ s.rxSeq, BitVec.ofBool s.fib ++ s.txSeq, 1, status.setWidth 8])

/-- R71, R242, R243, R244, R253, R317: with no LSSU due and no message to send (none at `tx_seq + 1`, or 128 queued) a
FISU is built. Its CRC is that of the state's parameter CRC16, the default or any other function (log entry 7). -/
def Obligations.TxBitBuildsFisu : Prop :=
  ∀ s : State, s.tx.phase = .flag → s.tx.flagIdx = 0 → s.state ≠ .powerOff → s.txLssu = none →
    (128 ≤ s.queue.length ∨ ∀ e ∈ s.queue, e.seq ≠ s.txSeq + 1) →
    exec .txBit s = .next (frameStarted s
      [BitVec.ofBool (s.bib ^^ s.txNack) ++ s.rxSeq, BitVec.ofBool s.fib ++ s.txSeq, 0])

/-- R242, R243, R113, R122, R316: with no LSSU due, the MSU of the first entry at `tx_seq + 1` is built, transmitted
before or not; the entry is marked and `tx_seq` becomes its number. The CRC is that of the state's parameter CRC16, the
default or any other function (log entry 7). -/
def Obligations.TxBitBuildsMsu : Prop :=
  ∀ (s : State) (pre post : List Entry) (e : Entry), s.tx.phase = .flag → s.tx.flagIdx = 0 → s.state ≠ .powerOff →
    s.txLssu = none → s.queue = pre ++ e :: post → s.queue.length < 128 → (∀ x ∈ pre, x.seq ≠ s.txSeq + 1) →
    e.seq = s.txSeq + 1 →
    exec .txBit s = .next (frameStarted
      { s with queue := pre ++ { e with transmitted := true } :: post, txSeq := e.seq }
      ([BitVec.ofBool (s.bib ^^ s.txNack) ++ s.rxSeq, BitVec.ofBool s.fib ++ e.seq,
        BitVec.ofNat 8 (min (1 + e.data.length) 63), e.sio] ++ e.data))

/-- R240, R245, R247, R249: a bit of the DATA phase: a 0 after five 1s, else the next frame bit, least significant first;
the frame ends after its last bit unless a stuffed 0 is due. -/
def Obligations.TxBitSendsFrameBit : Prop :=
  ∀ s : State, s.tx.phase = .data → s.tx.pos < 8 * s.tx.buf.length ∨ s.tx.ones = 5 →
    let b := (s.tx.buf.getD (s.tx.pos / 8) 0).getLsbD (s.tx.pos % 8)
    exec .txBit s = .next (
      if s.tx.ones = 5 then
        { s with tx := { s.tx with ones := 0, phase := if s.tx.pos = 8 * s.tx.len then .flag else .data }
                 responses := s.responses ++ [.bit false] }
      else
        { s with
          tx := { s.tx with
            pos := s.tx.pos + 1
            ones := if b then s.tx.ones + 1 else 0
            phase := if s.tx.pos + 1 = 8 * s.tx.len ∧ ¬(b = true ∧ s.tx.ones = 4) then .flag else .data }
          responses := s.responses ++ [.bit b] })

/-- R248: the DATA phase sends exactly `Stuff(tx_buf[0 .. tx_len-1])`, one bit per operation, and then a flag begins. -/
def Obligations.DataPhaseSendsStuffedFrame : Prop :=
  ∀ s : State, s.tx.phase = .data → s.tx.pos = 0 → s.tx.ones = 0 → s.tx.len = s.tx.buf.length → s.tx.buf ≠ [] →
    ∃ n, execAll (txBits (stuff s.tx.buf).length) s = .next
      { s with tx := { s.tx with phase := .flag, pos := 8 * s.tx.len, ones := n }
               responses := s.responses ++ (stuff s.tx.buf).map .bit }

/-! ### Receiver -/

/-- R270, R271, R275 to R277: a received bit that is no flag and completes no octet-count window: an abort drops the
frame and starts octet counting, a stuffed 0 is discarded, any other bit is stored in an open frame with room and
dropped while hunting. -/
def Obligations.RxBitBetweenFlags : Prop :=
  ∀ (b : Bool) (s : State), let sr : Byte := BitVec.ofBool b ++ s.rx.sr.extractLsb' 1 7
    ¬(s.rx.ocActive = true ∧ s.rx.ocBits = 127) → sr ≠ 0x7E →
    (sr = 0xFE → exec (.rxBit b) s = .next (bitReceived b s fun r =>
      { r with inFrame := false, bits := [], nbits := 0, flagRun := 0, ocActive := true,
               ocBits := if s.rx.ocActive then r.ocBits else 0 })) ∧
    (sr &&& 0xFC = 0x7C → exec (.rxBit b) s = .next (bitReceived b s fun r => r)) ∧
    (sr ≠ 0xFE → sr &&& 0xFC ≠ 0x7C → s.rx.inFrame = false →
      exec (.rxBit b) s = .next (bitReceived b s fun r => r)) ∧
    (sr ≠ 0xFE → sr &&& 0xFC ≠ 0x7C → s.rx.inFrame = true → s.rx.nbits ≠ 8 * s.params.rxMaxBytes + 7 →
      exec (.rxBit b) s = .next (bitReceived b s fun r =>
        { r with bits := s.rx.bits ++ [b], nbits := s.rx.nbits + 1 }))

/-- R277, R288, R402: a bit that would exceed RX_MAX_BYTES ends the frame: the bits are dropped, the receiver hunts, and
the block does what BAD_FRAME does. That the run of empty frames restarts is R288's, which the pseudocode of R270 leaves
out (log entry 23). -/
def Obligations.RxTooLongFrameIsBad : Prop :=
  ∀ (b : Bool) (s : State), let sr : Byte := BitVec.ofBool b ++ s.rx.sr.extractLsb' 1 7
    ¬(s.rx.ocActive = true ∧ s.rx.ocBits = 127) → sr ≠ 0x7E → sr ≠ 0xFE → sr &&& 0xFC ≠ 0x7C →
    s.rx.inFrame = true → s.rx.nbits = 8 * s.params.rxMaxBytes + 7 →
    ∃ u, exec .eventBadFrame s = .next u ∧
      exec (.rxBit b) s = .next { u with
        rx := (bitReceived b s fun r => { r with inFrame := false, bits := [], nbits := 0, flagRun := 0 }).rx
        responses := s.responses ++ [.ok] }

/-- R270, R272: in octet-counting mode the 128th bit restarts the count and does what OCTET_COUNT_ERR does, before the bit
itself is looked at; then an abort drops the frame, a stuffed 0 or a bit received while hunting is discarded, and any
other bit is stored. -/
def Obligations.RxOctetCountErrorAt128 : Prop :=
  ∀ (b : Bool) (s : State), let sr : Byte := BitVec.ofBool b ++ s.rx.sr.extractLsb' 1 7
    s.rx.ocActive = true → s.rx.ocBits = 127 →
    ∃ u, exec .eventOctetCountErr s = .next u ∧
      exec (.rxBit b) s = .next { classifyBit b { u with rx := { s.rx with sr := sr, ocBits := 0 } } with
        responses := s.responses ++ [.ok] } ∧
      (sr = 0xFE → exec (.rxBit b) s = .next { u with
        rx := { s.rx with sr := sr, ocBits := 0, inFrame := false, bits := [], nbits := 0, flagRun := 0 }
        responses := s.responses ++ [.ok] }) ∧
      (sr ≠ 0x7E → sr ≠ 0xFE → sr &&& 0xFC = 0x7C ∨ s.rx.inFrame = false → exec (.rxBit b) s = .next { u with
        rx := { s.rx with sr := sr, ocBits := 0 }, responses := s.responses ++ [.ok] }) ∧
      (sr ≠ 0x7E → sr ≠ 0xFE → sr &&& 0xFC ≠ 0x7C → s.rx.inFrame = true →
        s.rx.nbits ≠ 8 * s.params.rxMaxBytes + 7 → exec (.rxBit b) s = .next { u with
          rx := { s.rx with sr := sr, ocBits := 0, bits := s.rx.bits ++ [b], nbits := s.rx.nbits + 1 }
          responses := s.responses ++ [.ok] })

/-- R273, R274, R288: a flag while hunting opens a frame; a flag after a flag closes an empty frame, which is counted up
to max(FLAG_LIMIT, 1); the one at which the run reaches FLAG_LIMIT does what BAD_FRAME does, any other raises nothing. -/
def Obligations.RxFlagOpensFrame : Prop :=
  ∀ (b : Bool) (s : State), completesFlag b s →
    (s.rx.inFrame = false → exec (.rxBit b) s = .next
      { s with rx := afterFlag s.rx, responses := s.responses ++ [.ok] }) ∧
    (s.rx.inFrame = true → s.rx.nbits ≤ 7 → (s.params.flagLimit = 0 ∨ s.rx.flagRun + 1 ≠ s.params.flagLimit) →
      exec (.rxBit b) s = .next
        { s with
          rx := { afterFlag s.rx with
            flagRun := if s.rx.flagRun < max s.params.flagLimit 1 then s.rx.flagRun + 1 else s.rx.flagRun }
          responses := s.responses ++ [.ok] }) ∧
    (s.rx.inFrame = true → s.rx.nbits ≤ 7 → s.params.flagLimit ≠ 0 → s.rx.flagRun + 1 = s.params.flagLimit →
      ∃ u, exec .eventBadFrame s = .next u ∧
        exec (.rxBit b) s = .next { u with
          rx := { afterFlag s.rx with flagRun := s.rx.flagRun + 1 }, responses := s.responses ++ [.ok] })

/-- R279, R281, R283, R284, R402: a closing flag after a whole-byte frame that fails a check, or after a frame that is no
whole number of bytes, does what one BAD_FRAME does and raises nothing else. The CRC is checked with the state's parameter
CRC16, the default or any other function (log entry 7). -/
def Obligations.RxBadFrameRaisesOneBadFrame : Prop :=
  ∀ (b : Bool) (s : State), completesFlag b s → s.rx.inFrame = true → 8 ≤ s.rx.nbits →
    ((s.rx.nbits - 7) % 8 ≠ 0 ∨ ∃ f, holdsFrame s f ∧ ¬passesChecks s.params.crc16 f) →
    ∃ u, exec .eventBadFrame s = .next u ∧
      exec (.rxBit b) s = .next { u with
        rx := { afterFlag s.rx with flagRun := 0 }, responses := s.responses ++ [.ok] }

/-- R116, R285, R286, R287: a closing flag after a frame that passes the checks ends octet counting and does what
CORRECT_SU does and then what the frame's own event does: FISU_RX for no payload, the status event for 1 or 2 bytes
(none for the reserved statuses 6 and 7), MSU_RX for 3 bytes and more, with the fields of the frame. The CRC is checked
with the state's parameter CRC16, the default or any other function (log entry 7). The numbers of the statuses are
PRESUMED (log entry 19): R120 marks them "[from general knowledge, not in source]". A closing flag whose last bit is the
128th of an octet-count window is left out. -/
def Obligations.RxGoodFrameRaisesItsEvents : Prop :=
  ∀ (b : Bool) (s : State) (f : List Byte), completesFlag b s → holdsFrame s f →
    passesChecks s.params.crc16 f →
    let h0 := f.getD 0 0
    let h1 := f.getD 1 0
    let own : List Instr :=
      if f.length = 5 then
        [.eventFisuRx ⟨h0.extractLsb' 0 7, h0.getLsbD 7, h1.extractLsb' 0 7, h1.getLsbD 7, 0, []⟩]
      else if f.length ≤ 7 then
        match (f.getD 3 0).toNat % 8 with
        | 0 => [.eventSioRx]
        | 1 => [.eventSinRx]
        | 2 => [.eventSieRx]
        | 3 => [.eventSiosRx]
        | 4 => [.eventSipoRx]
        | 5 => [.eventSibRx]
        | _ => []
      else
        [.eventMsuRx ⟨h0.extractLsb' 0 7, h0.getLsbD 7, h1.extractLsb' 0 7, h1.getLsbD 7, f.getD 3 0,
          (f.drop 4).take (f.length - 6)⟩]
    ∃ u, execAll (.eventCorrectSu :: own) s = .next u ∧
      exec (.rxBit b) s = .next { u with
        rx := { s.rx with sr := 0x7E, inFrame := true, bits := [], nbits := 0, flagRun := 0, ocActive := false, ocBits := 0 }
        responses := s.responses ++ [.ok] }

/-- The round trip of 95_test_vectors.md E3: after a flag, the bits of `Stuff(f)` and of the closing flag but its last
leave the receiver holding exactly the bits of `f`, whose bytes are those of `f`; the last bit completes the flag. -/
def Obligations.ReceiverRecoversStuffedFrame : Prop :=
  ∀ (s : State) (f : List Byte), s.rx.sr = 0x7E → s.rx.inFrame = true → s.rx.bits = [] → s.rx.nbits = 0 →
    s.rx.ocActive = false → f.length ≤ s.params.rxMaxBytes →
    ∃ t : State, execAll (rxBits (stuff f ++ [false, true, true, true, true, true, true])) s = .next t ∧
      holdsFrame t f ∧ bytesOfBits t.rx.bits f.length = f ∧ completesFlag false t ∧
      t = { s with rx := { s.rx with sr := t.rx.sr, bits := t.rx.bits, nbits := t.rx.nbits }
                   responses := s.responses ++ List.replicate ((stuff f).length + 7) .ok }

/-! ### Sequencing -/

/-- R310 to R313: ENQUEUE, in the order of its checks; an accepted message is cut to TX_MAX_DATA bytes, gets the next
sequence number and is appended at the tail. -/
def Obligations.EnqueueOutcomes : Prop :=
  ∀ (sio : Byte) (data : List Byte) (s : State), exec (.enqueue sio data) s = .next (
    if s.state ≠ .inService then { s with responses := s.responses ++ [.enq .notInService] }
    else if data.length < 2 then { s with responses := s.responses ++ [.enq .tooShort] }
    else if s.queue.length ≥ s.params.queueDepth then { s with responses := s.responses ++ [.enq .queueFull] }
    else
      { s with
        txQueueSeq := s.txQueueSeq + 1
        queue := s.queue ++
          [{ seq := s.txQueueSeq + 1, sio := sio, data := data.take s.params.txMaxData, transmitted := false }]
        responses := s.responses ++
          [.enq (if data.length > s.params.txMaxData then .truncated else .accepted)] })

/-- R316, R317: Select answers none and writes nothing with 128 entries or no entry at `tx_seq + 1`; else it marks the
first such entry, whether transmitted or not, and moves `tx_seq` to it. -/
def Obligations.SelectTakesNextInSequence : Prop :=
  (∀ s : State, (128 ≤ s.queue.length ∨ ∀ e ∈ s.queue, e.seq ≠ s.txSeq + 1) → select s = (none, s)) ∧
  ∀ (s : State) (pre post : List Entry) (e : Entry), s.queue = pre ++ e :: post → s.queue.length < 128 →
    (∀ x ∈ pre, x.seq ≠ s.txSeq + 1) → e.seq = s.txSeq + 1 →
    select s = (some { e with transmitted := true },
      { s with queue := pre ++ { e with transmitted := true } :: post, txSeq := e.seq })

/-- R320: Ack frees the head through the entry whose number is BSN when every entry up to it is transmitted, and frees
nothing otherwise. -/
def Obligations.AckFreesThroughMatch : Prop :=
  (∀ (s : State) (bsn : Seq) (pre post : List Entry) (e : Entry), s.queue = pre ++ e :: post →
    (∀ x ∈ pre, x.transmitted = true ∧ x.seq ≠ bsn) → e.transmitted = true → e.seq = bsn →
    ack bsn s = { s with queue := post }) ∧
  ∀ (s : State) (bsn : Seq),
    (∀ (pre post : List Entry) (e : Entry), s.queue = pre ++ e :: post → e.seq = bsn →
      ∃ x ∈ pre ++ [e], x.transmitted = false) →
    ack bsn s = s

/-- R321: acknowledging the same BSN twice has no effect the second time, for consecutive numbers and fewer than 128
entries. -/
def Obligations.AckTwiceIsAckOnce : Prop :=
  ∀ (s : State) (bsn : Seq), consecutive s.queue → s.queue.length < 128 → ack bsn (ack bsn s) = ack bsn s

/-- R322, R324: a BIB equal to FIB acknowledges, any other asks for retransmission: Nack with a transmitted entry at
`bsn + 1` rewinds `tx_seq` to `bsn`, sets FIB and frees nothing, and the next Select returns that number; without such
an entry nothing changes. -/
def Obligations.NackForcesRetransmission : Prop :=
  (∀ (s : State) (bsn : Seq) (bib : Bool),
    ackOrNack bsn bib s = if bib = s.fib then ack bsn s else nack bsn bib s) ∧
  (∀ (s : State) (bsn : Seq) (bib : Bool), (∃ e ∈ s.queue, e.transmitted = true ∧ e.seq = bsn + 1) →
    nack bsn bib s = { s with txSeq := bsn, fib := bib } ∧
    (s.queue.length < 128 → ∃ m, (select (nack bsn bib s)).1 = some m ∧ m.seq = bsn + 1 ∧
      (select (nack bsn bib s)).2.txSeq = bsn + 1)) ∧
  ∀ (s : State) (bsn : Seq) (bib : Bool), (∀ e ∈ s.queue, e.transmitted = true → e.seq ≠ bsn + 1) →
    nack bsn bib s = s

/-- R326: an MSU with the expected FSN and FIB equal to BIB is delivered; a gap sets `tx_nack`; a repeat, or FIB not equal
to BIB, is discarded. These checks are PRESUMED (log entry 19): R326 takes them from the ITU-T Q.703 basic
error-correction method, "[from general knowledge, not in source]". -/
def Obligations.MsuAcceptance : Prop :=
  ∀ (a : EventArg) (s : State),
    (a.fib = s.bib → a.fsn = s.rxSeq + 1 →
      acceptMsu a s = { s with rxSeq := a.fsn, indOut := s.indOut ++ [.data a.sio a.data] }) ∧
    (a.fib = s.bib → a.fsn ≠ s.rxSeq + 1 → a.fsn ≠ s.rxSeq → acceptMsu a s = { s with txNack := true }) ∧
    (a.fib = s.bib → a.fsn = s.rxSeq → acceptMsu a s = s) ∧
    (a.fib ≠ s.bib → acceptMsu a s = s)
end

