-- ==== Sys2Proof/Laws/State.lean ====
section
/-! SUPPORT. One lemma per field for each update of the state that a shared operation makes. -/

namespace Sys2Proof.Machine

/-! ### respond -/

@[simp] theorem respond_state (r : Response) (s : State) : (respond r s).state = s.state := rfl
@[simp] theorem respond_txLssu (r : Response) (s : State) : (respond r s).txLssu = s.txLssu := rfl
@[simp] theorem respond_localEmergency (r : Response) (s : State) : (respond r s).localEmergency = s.localEmergency := rfl
@[simp] theorem respond_remoteEmergency (r : Response) (s : State) : (respond r s).remoteEmergency = s.remoteEmergency := rfl
@[simp] theorem respond_localOutage (r : Response) (s : State) : (respond r s).localOutage = s.localOutage := rfl
@[simp] theorem respond_remoteOutage (r : Response) (s : State) : (respond r s).remoteOutage = s.remoteOutage := rfl
@[simp] theorem respond_txSeq (r : Response) (s : State) : (respond r s).txSeq = s.txSeq := rfl
@[simp] theorem respond_fib (r : Response) (s : State) : (respond r s).fib = s.fib := rfl
@[simp] theorem respond_rxSeq (r : Response) (s : State) : (respond r s).rxSeq = s.rxSeq := rfl
@[simp] theorem respond_bib (r : Response) (s : State) : (respond r s).bib = s.bib := rfl
@[simp] theorem respond_txQueueSeq (r : Response) (s : State) : (respond r s).txQueueSeq = s.txQueueSeq := rfl
@[simp] theorem respond_txNack (r : Response) (s : State) : (respond r s).txNack = s.txNack := rfl
@[simp] theorem respond_furtherProving (r : Response) (s : State) : (respond r s).furtherProving = s.furtherProving := rfl
@[simp] theorem respond_provingTry (r : Response) (s : State) : (respond r s).provingTry = s.provingTry := rfl
@[simp] theorem respond_provingErrors (r : Response) (s : State) : (respond r s).provingErrors = s.provingErrors := rfl
@[simp] theorem respond_monitorErrors (r : Response) (s : State) : (respond r s).monitorErrors = s.monitorErrors := rfl
@[simp] theorem respond_monitorGood (r : Response) (s : State) : (respond r s).monitorGood = s.monitorGood := rfl
@[simp] theorem respond_queue (r : Response) (s : State) : (respond r s).queue = s.queue := rfl
@[simp] theorem respond_t1 (r : Response) (s : State) : (respond r s).t1 = s.t1 := rfl
@[simp] theorem respond_t2 (r : Response) (s : State) : (respond r s).t2 = s.t2 := rfl
@[simp] theorem respond_t3 (r : Response) (s : State) : (respond r s).t3 = s.t3 := rfl
@[simp] theorem respond_t4 (r : Response) (s : State) : (respond r s).t4 = s.t4 := rfl
@[simp] theorem respond_tx (r : Response) (s : State) : (respond r s).tx = s.tx := rfl
@[simp] theorem respond_rx (r : Response) (s : State) : (respond r s).rx = s.rx := rfl
@[simp] theorem respond_indOut (r : Response) (s : State) : (respond r s).indOut = s.indOut := rfl
@[simp] theorem respond_rate64k (r : Response) (s : State) : (respond r s).rate64k = s.rate64k := rfl
@[simp] theorem respond_ignoreMonitor (r : Response) (s : State) : (respond r s).ignoreMonitor = s.ignoreMonitor := rfl
@[simp] theorem respond_params (r : Response) (s : State) : (respond r s).params = s.params := rfl
@[simp] theorem respond_cmds (r : Response) (s : State) : (respond r s).cmds = s.cmds := rfl
@[simp] theorem respond_responses (r : Response) (s : State) : (respond r s).responses = s.responses ++ [r] := rfl

/-! ### indicate -/

@[simp] theorem indicate_state (x : Indication) (s : State) : (indicate x s).state = s.state := rfl
@[simp] theorem indicate_txLssu (x : Indication) (s : State) : (indicate x s).txLssu = s.txLssu := rfl
@[simp] theorem indicate_localEmergency (x : Indication) (s : State) : (indicate x s).localEmergency = s.localEmergency := rfl
@[simp] theorem indicate_remoteEmergency (x : Indication) (s : State) : (indicate x s).remoteEmergency = s.remoteEmergency := rfl
@[simp] theorem indicate_localOutage (x : Indication) (s : State) : (indicate x s).localOutage = s.localOutage := rfl
@[simp] theorem indicate_remoteOutage (x : Indication) (s : State) : (indicate x s).remoteOutage = s.remoteOutage := rfl
@[simp] theorem indicate_txSeq (x : Indication) (s : State) : (indicate x s).txSeq = s.txSeq := rfl
@[simp] theorem indicate_fib (x : Indication) (s : State) : (indicate x s).fib = s.fib := rfl
@[simp] theorem indicate_rxSeq (x : Indication) (s : State) : (indicate x s).rxSeq = s.rxSeq := rfl
@[simp] theorem indicate_bib (x : Indication) (s : State) : (indicate x s).bib = s.bib := rfl
@[simp] theorem indicate_txQueueSeq (x : Indication) (s : State) : (indicate x s).txQueueSeq = s.txQueueSeq := rfl
@[simp] theorem indicate_txNack (x : Indication) (s : State) : (indicate x s).txNack = s.txNack := rfl
@[simp] theorem indicate_furtherProving (x : Indication) (s : State) : (indicate x s).furtherProving = s.furtherProving := rfl
@[simp] theorem indicate_provingTry (x : Indication) (s : State) : (indicate x s).provingTry = s.provingTry := rfl
@[simp] theorem indicate_provingErrors (x : Indication) (s : State) : (indicate x s).provingErrors = s.provingErrors := rfl
@[simp] theorem indicate_monitorErrors (x : Indication) (s : State) : (indicate x s).monitorErrors = s.monitorErrors := rfl
@[simp] theorem indicate_monitorGood (x : Indication) (s : State) : (indicate x s).monitorGood = s.monitorGood := rfl
@[simp] theorem indicate_queue (x : Indication) (s : State) : (indicate x s).queue = s.queue := rfl
@[simp] theorem indicate_t1 (x : Indication) (s : State) : (indicate x s).t1 = s.t1 := rfl
@[simp] theorem indicate_t2 (x : Indication) (s : State) : (indicate x s).t2 = s.t2 := rfl
@[simp] theorem indicate_t3 (x : Indication) (s : State) : (indicate x s).t3 = s.t3 := rfl
@[simp] theorem indicate_t4 (x : Indication) (s : State) : (indicate x s).t4 = s.t4 := rfl
@[simp] theorem indicate_tx (x : Indication) (s : State) : (indicate x s).tx = s.tx := rfl
@[simp] theorem indicate_rx (x : Indication) (s : State) : (indicate x s).rx = s.rx := rfl
@[simp] theorem indicate_indOut (x : Indication) (s : State) : (indicate x s).indOut = s.indOut ++ [x] := rfl
@[simp] theorem indicate_rate64k (x : Indication) (s : State) : (indicate x s).rate64k = s.rate64k := rfl
@[simp] theorem indicate_ignoreMonitor (x : Indication) (s : State) : (indicate x s).ignoreMonitor = s.ignoreMonitor := rfl
@[simp] theorem indicate_params (x : Indication) (s : State) : (indicate x s).params = s.params := rfl
@[simp] theorem indicate_cmds (x : Indication) (s : State) : (indicate x s).cmds = s.cmds := rfl
@[simp] theorem indicate_responses (x : Indication) (s : State) : (indicate x s).responses = s.responses := rfl

/-! ### setTimer -/

@[simp] theorem setTimer_state (n : TimerId) (t : Timer) (s : State) : (setTimer n t s).state = s.state := by
  cases n <;> rfl
@[simp] theorem setTimer_txLssu (n : TimerId) (t : Timer) (s : State) : (setTimer n t s).txLssu = s.txLssu := by
  cases n <;> rfl
@[simp] theorem setTimer_localEmergency (n : TimerId) (t : Timer) (s : State) : (setTimer n t s).localEmergency = s.localEmergency := by
  cases n <;> rfl
@[simp] theorem setTimer_remoteEmergency (n : TimerId) (t : Timer) (s : State) : (setTimer n t s).remoteEmergency = s.remoteEmergency := by
  cases n <;> rfl
@[simp] theorem setTimer_localOutage (n : TimerId) (t : Timer) (s : State) : (setTimer n t s).localOutage = s.localOutage := by
  cases n <;> rfl
@[simp] theorem setTimer_remoteOutage (n : TimerId) (t : Timer) (s : State) : (setTimer n t s).remoteOutage = s.remoteOutage := by
  cases n <;> rfl
@[simp] theorem setTimer_txSeq (n : TimerId) (t : Timer) (s : State) : (setTimer n t s).txSeq = s.txSeq := by
  cases n <;> rfl
@[simp] theorem setTimer_fib (n : TimerId) (t : Timer) (s : State) : (setTimer n t s).fib = s.fib := by
  cases n <;> rfl
@[simp] theorem setTimer_rxSeq (n : TimerId) (t : Timer) (s : State) : (setTimer n t s).rxSeq = s.rxSeq := by
  cases n <;> rfl
@[simp] theorem setTimer_bib (n : TimerId) (t : Timer) (s : State) : (setTimer n t s).bib = s.bib := by
  cases n <;> rfl
@[simp] theorem setTimer_txQueueSeq (n : TimerId) (t : Timer) (s : State) : (setTimer n t s).txQueueSeq = s.txQueueSeq := by
  cases n <;> rfl
@[simp] theorem setTimer_txNack (n : TimerId) (t : Timer) (s : State) : (setTimer n t s).txNack = s.txNack := by
  cases n <;> rfl
@[simp] theorem setTimer_furtherProving (n : TimerId) (t : Timer) (s : State) : (setTimer n t s).furtherProving = s.furtherProving := by
  cases n <;> rfl
@[simp] theorem setTimer_provingTry (n : TimerId) (t : Timer) (s : State) : (setTimer n t s).provingTry = s.provingTry := by
  cases n <;> rfl
@[simp] theorem setTimer_provingErrors (n : TimerId) (t : Timer) (s : State) : (setTimer n t s).provingErrors = s.provingErrors := by
  cases n <;> rfl
@[simp] theorem setTimer_monitorErrors (n : TimerId) (t : Timer) (s : State) : (setTimer n t s).monitorErrors = s.monitorErrors := by
  cases n <;> rfl
@[simp] theorem setTimer_monitorGood (n : TimerId) (t : Timer) (s : State) : (setTimer n t s).monitorGood = s.monitorGood := by
  cases n <;> rfl
@[simp] theorem setTimer_queue (n : TimerId) (t : Timer) (s : State) : (setTimer n t s).queue = s.queue := by
  cases n <;> rfl
@[simp] theorem setTimer_t1 (n : TimerId) (t : Timer) (s : State) :
    (setTimer n t s).t1 = if n = .t1 then t else s.t1 := by cases n <;> rfl
@[simp] theorem setTimer_t2 (n : TimerId) (t : Timer) (s : State) :
    (setTimer n t s).t2 = if n = .t2 then t else s.t2 := by cases n <;> rfl
@[simp] theorem setTimer_t3 (n : TimerId) (t : Timer) (s : State) :
    (setTimer n t s).t3 = if n = .t3 then t else s.t3 := by cases n <;> rfl
@[simp] theorem setTimer_t4 (n : TimerId) (t : Timer) (s : State) :
    (setTimer n t s).t4 = if n = .t4 then t else s.t4 := by cases n <;> rfl
@[simp] theorem setTimer_tx (n : TimerId) (t : Timer) (s : State) : (setTimer n t s).tx = s.tx := by
  cases n <;> rfl
@[simp] theorem setTimer_rx (n : TimerId) (t : Timer) (s : State) : (setTimer n t s).rx = s.rx := by
  cases n <;> rfl
@[simp] theorem setTimer_indOut (n : TimerId) (t : Timer) (s : State) : (setTimer n t s).indOut = s.indOut := by
  cases n <;> rfl
@[simp] theorem setTimer_rate64k (n : TimerId) (t : Timer) (s : State) : (setTimer n t s).rate64k = s.rate64k := by
  cases n <;> rfl
@[simp] theorem setTimer_ignoreMonitor (n : TimerId) (t : Timer) (s : State) : (setTimer n t s).ignoreMonitor = s.ignoreMonitor := by
  cases n <;> rfl
@[simp] theorem setTimer_params (n : TimerId) (t : Timer) (s : State) : (setTimer n t s).params = s.params := by
  cases n <;> rfl
@[simp] theorem setTimer_cmds (n : TimerId) (t : Timer) (s : State) : (setTimer n t s).cmds = s.cmds := by
  cases n <;> rfl
@[simp] theorem setTimer_responses (n : TimerId) (t : Timer) (s : State) : (setTimer n t s).responses = s.responses := by
  cases n <;> rfl

@[simp] theorem getTimer_setTimer (n m : TimerId) (t : Timer) (s : State) :
    getTimer m (setTimer n t s) = if n = m then t else getTimer m s := by cases n <;> cases m <;> rfl

@[simp] theorem setTimer_setTimer (n : TimerId) (t u : Timer) (s : State) :
    setTimer n t (setTimer n u s) = setTimer n t s := by cases n <;> rfl

/-! ### cancel and arm -/

/-- `Cancel(n)` writes timer `n` only: disarmed, count 0 (45_timers.md R372). -/
theorem cancel_eq (n : TimerId) (s : State) : cancel n s = setTimer n Timer.off s := rfl

@[simp] theorem timerDuration_setTimer (n m : TimerId) (t : Timer) (s : State) :
    timerDuration (setTimer n t s) m = timerDuration s m := by cases n <;> rfl

/-- `Arm(n)` writes timer `n` only: armed, with its full duration (45_timers.md R371). -/
theorem arm_eq (n : TimerId) (s : State) : arm n s = setTimer n ⟨true, timerDuration s n⟩ s := by
  cases n <;> rfl

@[simp] theorem cancel_state (n : TimerId) (s : State) : (cancel n s).state = s.state := by cases n <;> rfl
@[simp] theorem arm_state (n : TimerId) (s : State) : (arm n s).state = s.state := by cases n <;> rfl
@[simp] theorem cancel_txLssu (n : TimerId) (s : State) : (cancel n s).txLssu = s.txLssu := by cases n <;> rfl
@[simp] theorem arm_txLssu (n : TimerId) (s : State) : (arm n s).txLssu = s.txLssu := by cases n <;> rfl
@[simp] theorem cancel_localEmergency (n : TimerId) (s : State) : (cancel n s).localEmergency = s.localEmergency := by cases n <;> rfl
@[simp] theorem arm_localEmergency (n : TimerId) (s : State) : (arm n s).localEmergency = s.localEmergency := by cases n <;> rfl
@[simp] theorem cancel_remoteEmergency (n : TimerId) (s : State) : (cancel n s).remoteEmergency = s.remoteEmergency := by cases n <;> rfl
@[simp] theorem arm_remoteEmergency (n : TimerId) (s : State) : (arm n s).remoteEmergency = s.remoteEmergency := by cases n <;> rfl
@[simp] theorem cancel_localOutage (n : TimerId) (s : State) : (cancel n s).localOutage = s.localOutage := by cases n <;> rfl
@[simp] theorem arm_localOutage (n : TimerId) (s : State) : (arm n s).localOutage = s.localOutage := by cases n <;> rfl
@[simp] theorem cancel_remoteOutage (n : TimerId) (s : State) : (cancel n s).remoteOutage = s.remoteOutage := by cases n <;> rfl
@[simp] theorem arm_remoteOutage (n : TimerId) (s : State) : (arm n s).remoteOutage = s.remoteOutage := by cases n <;> rfl
@[simp] theorem cancel_txSeq (n : TimerId) (s : State) : (cancel n s).txSeq = s.txSeq := by cases n <;> rfl
@[simp] theorem arm_txSeq (n : TimerId) (s : State) : (arm n s).txSeq = s.txSeq := by cases n <;> rfl
@[simp] theorem cancel_fib (n : TimerId) (s : State) : (cancel n s).fib = s.fib := by cases n <;> rfl
@[simp] theorem arm_fib (n : TimerId) (s : State) : (arm n s).fib = s.fib := by cases n <;> rfl
@[simp] theorem cancel_rxSeq (n : TimerId) (s : State) : (cancel n s).rxSeq = s.rxSeq := by cases n <;> rfl
@[simp] theorem arm_rxSeq (n : TimerId) (s : State) : (arm n s).rxSeq = s.rxSeq := by cases n <;> rfl
@[simp] theorem cancel_bib (n : TimerId) (s : State) : (cancel n s).bib = s.bib := by cases n <;> rfl
@[simp] theorem arm_bib (n : TimerId) (s : State) : (arm n s).bib = s.bib := by cases n <;> rfl
@[simp] theorem cancel_txQueueSeq (n : TimerId) (s : State) : (cancel n s).txQueueSeq = s.txQueueSeq := by cases n <;> rfl
@[simp] theorem arm_txQueueSeq (n : TimerId) (s : State) : (arm n s).txQueueSeq = s.txQueueSeq := by cases n <;> rfl
@[simp] theorem cancel_txNack (n : TimerId) (s : State) : (cancel n s).txNack = s.txNack := by cases n <;> rfl
@[simp] theorem arm_txNack (n : TimerId) (s : State) : (arm n s).txNack = s.txNack := by cases n <;> rfl
@[simp] theorem cancel_furtherProving (n : TimerId) (s : State) : (cancel n s).furtherProving = s.furtherProving := by cases n <;> rfl
@[simp] theorem arm_furtherProving (n : TimerId) (s : State) : (arm n s).furtherProving = s.furtherProving := by cases n <;> rfl
@[simp] theorem cancel_provingTry (n : TimerId) (s : State) : (cancel n s).provingTry = s.provingTry := by cases n <;> rfl
@[simp] theorem arm_provingTry (n : TimerId) (s : State) : (arm n s).provingTry = s.provingTry := by cases n <;> rfl
@[simp] theorem cancel_provingErrors (n : TimerId) (s : State) : (cancel n s).provingErrors = s.provingErrors := by cases n <;> rfl
@[simp] theorem arm_provingErrors (n : TimerId) (s : State) : (arm n s).provingErrors = s.provingErrors := by cases n <;> rfl
@[simp] theorem cancel_monitorErrors (n : TimerId) (s : State) : (cancel n s).monitorErrors = s.monitorErrors := by cases n <;> rfl
@[simp] theorem arm_monitorErrors (n : TimerId) (s : State) : (arm n s).monitorErrors = s.monitorErrors := by cases n <;> rfl
@[simp] theorem cancel_monitorGood (n : TimerId) (s : State) : (cancel n s).monitorGood = s.monitorGood := by cases n <;> rfl
@[simp] theorem arm_monitorGood (n : TimerId) (s : State) : (arm n s).monitorGood = s.monitorGood := by cases n <;> rfl
@[simp] theorem cancel_queue (n : TimerId) (s : State) : (cancel n s).queue = s.queue := by cases n <;> rfl
@[simp] theorem arm_queue (n : TimerId) (s : State) : (arm n s).queue = s.queue := by cases n <;> rfl
@[simp] theorem cancel_t1 (n : TimerId) (s : State) : (cancel n s).t1 = if n = .t1 then Timer.off else s.t1 := by
  cases n <;> rfl
@[simp] theorem arm_t1 (n : TimerId) (s : State) :
    (arm n s).t1 = if n = .t1 then ⟨true, timerDuration s n⟩ else s.t1 := by cases n <;> rfl
@[simp] theorem cancel_t2 (n : TimerId) (s : State) : (cancel n s).t2 = if n = .t2 then Timer.off else s.t2 := by
  cases n <;> rfl
@[simp] theorem arm_t2 (n : TimerId) (s : State) :
    (arm n s).t2 = if n = .t2 then ⟨true, timerDuration s n⟩ else s.t2 := by cases n <;> rfl
@[simp] theorem cancel_t3 (n : TimerId) (s : State) : (cancel n s).t3 = if n = .t3 then Timer.off else s.t3 := by
  cases n <;> rfl
@[simp] theorem arm_t3 (n : TimerId) (s : State) :
    (arm n s).t3 = if n = .t3 then ⟨true, timerDuration s n⟩ else s.t3 := by cases n <;> rfl
@[simp] theorem cancel_t4 (n : TimerId) (s : State) : (cancel n s).t4 = if n = .t4 then Timer.off else s.t4 := by
  cases n <;> rfl
@[simp] theorem arm_t4 (n : TimerId) (s : State) :
    (arm n s).t4 = if n = .t4 then ⟨true, timerDuration s n⟩ else s.t4 := by cases n <;> rfl
@[simp] theorem cancel_tx (n : TimerId) (s : State) : (cancel n s).tx = s.tx := by cases n <;> rfl
@[simp] theorem arm_tx (n : TimerId) (s : State) : (arm n s).tx = s.tx := by cases n <;> rfl
@[simp] theorem cancel_rx (n : TimerId) (s : State) : (cancel n s).rx = s.rx := by cases n <;> rfl
@[simp] theorem arm_rx (n : TimerId) (s : State) : (arm n s).rx = s.rx := by cases n <;> rfl
@[simp] theorem cancel_indOut (n : TimerId) (s : State) : (cancel n s).indOut = s.indOut := by cases n <;> rfl
@[simp] theorem arm_indOut (n : TimerId) (s : State) : (arm n s).indOut = s.indOut := by cases n <;> rfl
@[simp] theorem cancel_rate64k (n : TimerId) (s : State) : (cancel n s).rate64k = s.rate64k := by cases n <;> rfl
@[simp] theorem arm_rate64k (n : TimerId) (s : State) : (arm n s).rate64k = s.rate64k := by cases n <;> rfl
@[simp] theorem cancel_ignoreMonitor (n : TimerId) (s : State) : (cancel n s).ignoreMonitor = s.ignoreMonitor := by cases n <;> rfl
@[simp] theorem arm_ignoreMonitor (n : TimerId) (s : State) : (arm n s).ignoreMonitor = s.ignoreMonitor := by cases n <;> rfl
@[simp] theorem cancel_params (n : TimerId) (s : State) : (cancel n s).params = s.params := by cases n <;> rfl
@[simp] theorem arm_params (n : TimerId) (s : State) : (arm n s).params = s.params := by cases n <;> rfl
@[simp] theorem cancel_cmds (n : TimerId) (s : State) : (cancel n s).cmds = s.cmds := by cases n <;> rfl
@[simp] theorem arm_cmds (n : TimerId) (s : State) : (arm n s).cmds = s.cmds := by cases n <;> rfl
@[simp] theorem cancel_responses (n : TimerId) (s : State) : (cancel n s).responses = s.responses := by cases n <;> rfl
@[simp] theorem arm_responses (n : TimerId) (s : State) : (arm n s).responses = s.responses := by cases n <;> rfl

/-! ### stop -/

@[simp] theorem stop_state (s : State) : (stop s).state = .outOfService := rfl
@[simp] theorem stop_txLssu (s : State) : (stop s).txLssu = some lssuSIOS := rfl
@[simp] theorem stop_localEmergency (s : State) : (stop s).localEmergency = s.localEmergency := rfl
@[simp] theorem stop_remoteEmergency (s : State) : (stop s).remoteEmergency = false := rfl
@[simp] theorem stop_localOutage (s : State) : (stop s).localOutage = s.localOutage := rfl
@[simp] theorem stop_remoteOutage (s : State) : (stop s).remoteOutage = false := rfl
@[simp] theorem stop_txSeq (s : State) : (stop s).txSeq = Config.seqReset := rfl
@[simp] theorem stop_fib (s : State) : (stop s).fib = true := rfl
@[simp] theorem stop_rxSeq (s : State) : (stop s).rxSeq = Config.seqReset := rfl
@[simp] theorem stop_bib (s : State) : (stop s).bib = true := rfl
@[simp] theorem stop_txQueueSeq (s : State) : (stop s).txQueueSeq = Config.seqReset := rfl
@[simp] theorem stop_txNack (s : State) : (stop s).txNack = false := rfl
@[simp] theorem stop_furtherProving (s : State) : (stop s).furtherProving = false := rfl
@[simp] theorem stop_provingTry (s : State) : (stop s).provingTry = 0 := rfl
@[simp] theorem stop_provingErrors (s : State) : (stop s).provingErrors = 0 := rfl
@[simp] theorem stop_monitorErrors (s : State) : (stop s).monitorErrors = 0 := rfl
@[simp] theorem stop_monitorGood (s : State) : (stop s).monitorGood = 0 := rfl
@[simp] theorem stop_queue (s : State) : (stop s).queue = [] := rfl
@[simp] theorem stop_t1 (s : State) : (stop s).t1 = Timer.off := rfl
@[simp] theorem stop_t2 (s : State) : (stop s).t2 = Timer.off := rfl
@[simp] theorem stop_t3 (s : State) : (stop s).t3 = Timer.off := rfl
@[simp] theorem stop_t4 (s : State) : (stop s).t4 = Timer.off := rfl
@[simp] theorem stop_tx (s : State) : (stop s).tx = s.tx := rfl
@[simp] theorem stop_rx (s : State) : (stop s).rx = s.rx := rfl
@[simp] theorem stop_indOut (s : State) : (stop s).indOut = s.indOut := rfl
@[simp] theorem stop_rate64k (s : State) : (stop s).rate64k = s.rate64k := rfl
@[simp] theorem stop_ignoreMonitor (s : State) : (stop s).ignoreMonitor = s.ignoreMonitor := rfl
@[simp] theorem stop_params (s : State) : (stop s).params = s.params := rfl
@[simp] theorem stop_cmds (s : State) : (stop s).cmds = s.cmds := rfl
@[simp] theorem stop_responses (s : State) : (stop s).responses = s.responses := rfl

/-! ### fail -/

@[simp] theorem fail_state (c : Cause) (s : State) : (fail c s).state = .outOfService := rfl
@[simp] theorem fail_txLssu (c : Cause) (s : State) : (fail c s).txLssu = some lssuSIOS := rfl
@[simp] theorem fail_localEmergency (c : Cause) (s : State) : (fail c s).localEmergency = s.localEmergency := rfl
@[simp] theorem fail_remoteEmergency (c : Cause) (s : State) : (fail c s).remoteEmergency = false := rfl
@[simp] theorem fail_localOutage (c : Cause) (s : State) : (fail c s).localOutage = s.localOutage := rfl
@[simp] theorem fail_remoteOutage (c : Cause) (s : State) : (fail c s).remoteOutage = false := rfl
@[simp] theorem fail_txSeq (c : Cause) (s : State) : (fail c s).txSeq = Config.seqReset := rfl
@[simp] theorem fail_fib (c : Cause) (s : State) : (fail c s).fib = true := rfl
@[simp] theorem fail_rxSeq (c : Cause) (s : State) : (fail c s).rxSeq = Config.seqReset := rfl
@[simp] theorem fail_bib (c : Cause) (s : State) : (fail c s).bib = true := rfl
@[simp] theorem fail_txQueueSeq (c : Cause) (s : State) : (fail c s).txQueueSeq = Config.seqReset := rfl
@[simp] theorem fail_txNack (c : Cause) (s : State) : (fail c s).txNack = false := rfl
@[simp] theorem fail_furtherProving (c : Cause) (s : State) : (fail c s).furtherProving = false := rfl
@[simp] theorem fail_provingTry (c : Cause) (s : State) : (fail c s).provingTry = 0 := rfl
@[simp] theorem fail_provingErrors (c : Cause) (s : State) : (fail c s).provingErrors = 0 := rfl
@[simp] theorem fail_monitorErrors (c : Cause) (s : State) : (fail c s).monitorErrors = 0 := rfl
@[simp] theorem fail_monitorGood (c : Cause) (s : State) : (fail c s).monitorGood = 0 := rfl
@[simp] theorem fail_queue (c : Cause) (s : State) : (fail c s).queue = [] := rfl
@[simp] theorem fail_t1 (c : Cause) (s : State) : (fail c s).t1 = Timer.off := rfl
@[simp] theorem fail_t2 (c : Cause) (s : State) : (fail c s).t2 = Timer.off := rfl
@[simp] theorem fail_t3 (c : Cause) (s : State) : (fail c s).t3 = Timer.off := rfl
@[simp] theorem fail_t4 (c : Cause) (s : State) : (fail c s).t4 = Timer.off := rfl
@[simp] theorem fail_tx (c : Cause) (s : State) : (fail c s).tx = s.tx := rfl
@[simp] theorem fail_rx (c : Cause) (s : State) : (fail c s).rx = s.rx := rfl
@[simp] theorem fail_indOut (c : Cause) (s : State) : (fail c s).indOut = s.indOut ++ [.outOfService c] := rfl
@[simp] theorem fail_rate64k (c : Cause) (s : State) : (fail c s).rate64k = s.rate64k := rfl
@[simp] theorem fail_ignoreMonitor (c : Cause) (s : State) : (fail c s).ignoreMonitor = s.ignoreMonitor := rfl
@[simp] theorem fail_params (c : Cause) (s : State) : (fail c s).params = s.params := rfl
@[simp] theorem fail_cmds (c : Cause) (s : State) : (fail c s).cmds = s.cmds := rfl
@[simp] theorem fail_responses (c : Cause) (s : State) : (fail c s).responses = s.responses := rfl

end Sys2Proof.Machine
end

