-- ==== Sys2Proof/Laws/Fsm.lean ====
section
/-! SUPPORT. What the table search, the monitor hooks and the dispatcher can do, said once (40_fsm.md R141 to R145). -/

namespace Sys2Proof.Machine

/-- Everything a row can do to a state, by the action it runs (40_fsm.md R143). -/
inductive RowEffect (a : EventArg) (s : State) : State → Prop
  | stop : RowEffect a s (stop s)
  | emergency (b : Bool) : RowEffect a s { s with localEmergency := b }
  | start (h : s.state = .outOfService) : RowEffect a s (startAlignment s)
  | enterAligned (h : s.state = .notAligned) (st : LssuStatus) : RowEffect a s (enterAligned st s)
  | fail (h : s.state ≠ .powerOff) (h' : s.state ≠ .outOfService) (c : Cause) : RowEffect a s (fail c s)
  | enterProving (h : s.state = .aligned) (st : LssuStatus) : RowEffect a s (enterProving st s)
  | correctSu (h : s.state = .proving) : RowEffect a s { s with furtherProving := false }
  | abortProving (h : s.state = .proving) : RowEffect a s (abortProving s)
  | provingComplete (h : s.state = .proving) : RowEffect a s (provingComplete s)
  | remoteOutageBegins (h : s.state = .alignedReady ∨ s.state = .alignedNotReady ∨ s.state = .inService) :
      RowEffect a s (remoteOutageBegins s)
  | remoteOutageRecorded (h : s.state = .processorOutage) : RowEffect a s (remoteOutageRecorded s)
  | fisuReady (h : s.state = .alignedReady) : RowEffect a s (seqRxFisu a (linkUp .inService s))
  | msuReady (h : s.state = .alignedReady) : RowEffect a s (seqRxMsu a (linkUp .inService s))
  | fisuNotReady (h : s.state = .alignedNotReady) : RowEffect a s (seqRxFisu a (linkUp .processorOutage s))
  | msuNotReady (h : s.state = .alignedNotReady) : RowEffect a s (seqRxMsu a (linkUp .processorOutage s))
  | fisu (h : s.state = .inService) : RowEffect a s (seqRxFisu a s)
  | msu (h : s.state = .inService) : RowEffect a s (seqRxMsu a s)
  | fisuOutage (h : s.state = .processorOutage) : RowEffect a s (seqRxFisu a (remoteRecoveryCheck s))
  | msuOutage (h : s.state = .processorOutage) : RowEffect a s (seqRxMsu a (remoteRecoveryCheck s))
  | outageReady (h : s.state = .alignedReady) : RowEffect a s (localOutageBegins .alignedNotReady s)
  | outageService (h : s.state = .inService ∨ s.state = .processorOutage) :
      RowEffect a s (localOutageBegins .processorOutage s)
  | recoveredNotReady (h : s.state = .alignedNotReady) : RowEffect a s (localOutageEndsNotReady s)
  | recovered (h : s.state = .processorOutage) : RowEffect a s (localOutageEnds s)
  | outageRecorded (h : s.state ≠ .alignedReady) (h' : s.state ≠ .inService) (h'' : s.state ≠ .processorOutage) :
      RowEffect a s { s with localOutage := true }
  | recoveryRecorded (h : s.state ≠ .alignedNotReady) (h' : s.state ≠ .processorOutage) :
      RowEffect a s { s with localOutage := false }

/-- The table search runs the first matching row or leaves the state alone. -/
theorem searchTable_eq (ev : Event) (a : EventArg) (s : State) :
    searchTable ev a s =
      match matchingRow ev s.state with
      | some r => (r.action a s, true)
      | none => (s, false) := rfl

/-- A search that finds no row changes nothing (40_fsm.md R142). -/
theorem searchTable_ignored {ev : Event} {a : EventArg} {s : State} (h : (searchTable ev a s).2 = false) :
    (searchTable ev a s).1 = s := by
  unfold searchTable at h ⊢
  split <;> simp_all

/-- The inversion lemma of the table search: it changes nothing, or has the effect of one row in a state that row
applies in. -/
theorem searchTable_effect (ev : Event) (a : EventArg) (s : State) :
    (searchTable ev a s).1 = s ∨ RowEffect a s (searchTable ev a s).1 := by
  generalize hs : s.state = st
  cases ev <;> cases st <;> rw [searchTable_eq, hs] <;>
    first
    | exact .inl rfl
    | (refine .inr ?_
       first
       | exact RowEffect.stop
       | exact RowEffect.emergency _
       | exact RowEffect.start hs
       | exact RowEffect.enterAligned hs _
       | exact RowEffect.enterProving hs _
       | exact RowEffect.correctSu hs
       | exact RowEffect.abortProving hs
       | exact RowEffect.provingComplete hs
       | exact RowEffect.remoteOutageBegins (.inl hs)
       | exact RowEffect.remoteOutageBegins (.inr (.inl hs))
       | exact RowEffect.remoteOutageBegins (.inr (.inr hs))
       | exact RowEffect.remoteOutageRecorded hs
       | exact RowEffect.fisuReady hs
       | exact RowEffect.msuReady hs
       | exact RowEffect.fisuNotReady hs
       | exact RowEffect.msuNotReady hs
       | exact RowEffect.fisu hs
       | exact RowEffect.msu hs
       | exact RowEffect.fisuOutage hs
       | exact RowEffect.msuOutage hs
       | exact RowEffect.outageReady hs
       | exact RowEffect.outageService (.inl hs)
       | exact RowEffect.outageService (.inr hs)
       | exact RowEffect.recoveredNotReady hs
       | exact RowEffect.recovered hs
       | exact RowEffect.outageRecorded (by simp [hs]) (by simp [hs]) (by simp [hs])
       | exact RowEffect.recoveryRecorded (by simp [hs]) (by simp [hs])
       | exact RowEffect.fail (by simp [hs]) (by simp [hs]) _)

end Sys2Proof.Machine
end

