-- ==== Sys2Proof/Laws/Frame.lean ====
section
/-! SUPPORT. What no event can change: the framer, the configuration and the ports to the host; indications are only
appended (42_framer_rx.md R289, 10_state.md R43, R58). -/

namespace Sys2Proof.Machine

/-- `t` differs from `s` only in the FSM, sequencing, monitor and timer state, and in indications appended. -/
structure EventFrame (s t : State) : Prop where
  tx : t.tx = s.tx
  rx : t.rx = s.rx
  rate64k : t.rate64k = s.rate64k
  ignoreMonitor : t.ignoreMonitor = s.ignoreMonitor
  params : t.params = s.params
  cmds : t.cmds = s.cmds
  responses : t.responses = s.responses
  indOut : s.indOut <+: t.indOut

theorem EventFrame.refl (s : State) : EventFrame s s := ⟨rfl, rfl, rfl, rfl, rfl, rfl, rfl, List.prefix_refl _⟩

theorem EventFrame.trans {s t u : State} (h : EventFrame s t) (h' : EventFrame t u) : EventFrame s u :=
  ⟨h'.tx.trans h.tx, h'.rx.trans h.rx, h'.rate64k.trans h.rate64k, h'.ignoreMonitor.trans h.ignoreMonitor,
    h'.params.trans h.params, h'.cmds.trans h.cmds, h'.responses.trans h.responses, h.indOut.trans h'.indOut⟩

theorem setTimer_frame (n : TimerId) (t : Timer) (s : State) : EventFrame s (setTimer n t s) := by
  cases n <;> exact ⟨rfl, rfl, rfl, rfl, rfl, rfl, rfl, List.prefix_refl _⟩

theorem cancel_frame (n : TimerId) (s : State) : EventFrame s (cancel n s) := setTimer_frame n _ s

theorem arm_frame (n : TimerId) (s : State) : EventFrame s (arm n s) := by
  rw [arm_eq]; exact setTimer_frame n _ s

theorem indicate_frame (x : Indication) (s : State) : EventFrame s (indicate x s) :=
  ⟨rfl, rfl, rfl, rfl, rfl, rfl, rfl, List.prefix_append _ _⟩

theorem stop_frame (s : State) : EventFrame s (stop s) := ⟨rfl, rfl, rfl, rfl, rfl, rfl, rfl, List.prefix_refl _⟩

theorem fail_frame (c : Cause) (s : State) : EventFrame s (fail c s) := (stop_frame s).trans (indicate_frame _ _)

theorem ack_frame (b : Seq) (s : State) : EventFrame s (ack b s) :=
  ⟨rfl, rfl, rfl, rfl, rfl, rfl, rfl, List.prefix_refl _⟩

theorem nack_frame (b : Seq) (i : Bool) (s : State) : EventFrame s (nack b i s) := by
  unfold nack; split <;> exact ⟨rfl, rfl, rfl, rfl, rfl, rfl, rfl, List.prefix_refl _⟩

theorem seqRxFisu_frame (a : EventArg) (s : State) : EventFrame s (seqRxFisu a s) := by
  unfold seqRxFisu ackOrNack
  split
  · exact ack_frame _ _
  · exact nack_frame _ _ _

theorem acceptMsu_frame (a : EventArg) (s : State) : EventFrame s (acceptMsu a s) := by
  unfold acceptMsu
  split
  · exact ⟨rfl, rfl, rfl, rfl, rfl, rfl, rfl, List.prefix_append _ _⟩
  · split <;> exact ⟨rfl, rfl, rfl, rfl, rfl, rfl, rfl, List.prefix_refl _⟩

theorem seqRxMsu_frame (a : EventArg) (s : State) : EventFrame s (seqRxMsu a s) :=
  (seqRxFisu_frame a s).trans (acceptMsu_frame a _)

/-- Closes a frame goal whose two states are records that differ in unframed fields only. -/
theorem EventFrame.of_fields {s t : State} (h1 : t.tx = s.tx) (h2 : t.rx = s.rx) (h3 : t.rate64k = s.rate64k)
    (h4 : t.ignoreMonitor = s.ignoreMonitor) (h5 : t.params = s.params) (h6 : t.cmds = s.cmds)
    (h7 : t.responses = s.responses) (l : List Indication) (h8 : t.indOut = s.indOut ++ l) : EventFrame s t :=
  ⟨h1, h2, h3, h4, h5, h6, h7, h8 ▸ List.prefix_append _ _⟩

theorem linkUp_frame (st : LinkState) (s : State) : EventFrame s (linkUp st s) :=
  .of_fields rfl rfl rfl rfl rfl rfl rfl [.inService] rfl

theorem remoteRecoveryCheck_frame (s : State) : EventFrame s (remoteRecoveryCheck s) := by
  unfold remoteRecoveryCheck
  split
  · split
    · exact .of_fields rfl rfl rfl rfl rfl rfl rfl [] (by simp)
    · exact .of_fields rfl rfl rfl rfl rfl rfl rfl [.remoteProcessorRecovered] rfl
  · exact .refl s

/-- No row touches the framer, the configuration or the ports. -/
theorem RowEffect.frame {a : EventArg} {s t : State} (h : RowEffect a s t) : EventFrame s t := by
  cases h with
  | stop => exact stop_frame s
  | fail _ _ c => exact fail_frame c s
  | abortProving =>
    unfold Machine.abortProving
    dsimp only
    split
    · exact .of_fields rfl rfl rfl rfl rfl rfl rfl [.outOfService .provingFailureLocal] rfl
    · exact .of_fields rfl rfl rfl rfl rfl rfl rfl [] (by simp)
  | provingComplete =>
    unfold Machine.provingComplete
    dsimp only
    split
    · exact .of_fields rfl rfl rfl rfl rfl rfl rfl [] (by simp)
    · split <;> exact .of_fields rfl rfl rfl rfl rfl rfl rfl [] (by simp)
  | remoteOutageBegins => exact .of_fields rfl rfl rfl rfl rfl rfl rfl [.remoteProcessorOutage] rfl
  | remoteOutageRecorded =>
    unfold Machine.remoteOutageRecorded
    split
    · exact .refl s
    · exact .of_fields rfl rfl rfl rfl rfl rfl rfl [.remoteProcessorOutage] rfl
  | fisuReady => exact (linkUp_frame _ s).trans (seqRxFisu_frame a _)
  | msuReady => exact (linkUp_frame _ s).trans (seqRxMsu_frame a _)
  | fisuNotReady => exact (linkUp_frame _ s).trans (seqRxFisu_frame a _)
  | msuNotReady => exact (linkUp_frame _ s).trans (seqRxMsu_frame a _)
  | fisu => exact seqRxFisu_frame a s
  | msu => exact seqRxMsu_frame a s
  | fisuOutage => exact (remoteRecoveryCheck_frame s).trans (seqRxFisu_frame a _)
  | msuOutage => exact (remoteRecoveryCheck_frame s).trans (seqRxMsu_frame a _)
  | recovered =>
    unfold localOutageEnds
    dsimp only
    split
    · exact .of_fields rfl rfl rfl rfl rfl rfl rfl [] (by simp)
    · exact .of_fields rfl rfl rfl rfl rfl rfl rfl [.remoteProcessorRecovered] rfl
  | _ => exact .of_fields rfl rfl rfl rfl rfl rfl rfl [] (List.append_nil _).symm

theorem searchTable_frame (ev : Event) (a : EventArg) (s : State) : EventFrame s (searchTable ev a s).1 := by
  rcases searchTable_effect ev a s with h | h
  · rw [h]; exact .refl s
  · exact h.frame

theorem inServiceBad_frame (s : State) : EventFrame s (inServiceBad s) := by
  unfold inServiceBad
  dsimp only
  split
  · refine EventFrame.trans ?_ (searchTable_frame _ _ _)
    exact .of_fields rfl rfl rfl rfl rfl rfl rfl [] (by simp)
  · exact .of_fields rfl rfl rfl rfl rfl rfl rfl [] (by simp)

theorem provingBad_frame (s : State) : EventFrame s (provingBad s) := by
  unfold provingBad
  dsimp only
  split
  · refine EventFrame.trans ?_ (searchTable_frame _ _ _)
    exact .of_fields rfl rfl rfl rfl rfl rfl rfl [] (by simp)
  · exact .of_fields rfl rfl rfl rfl rfl rfl rfl [] (by simp)

theorem inServiceGood_frame (s : State) : EventFrame s (inServiceGood s) := by
  unfold inServiceGood
  split <;> exact .of_fields rfl rfl rfl rfl rfl rfl rfl [] (by simp)

/-- The monitor hook does nothing, or runs one monitor in a state it is active in (44_error_monitor.md R350). -/
theorem monitorHook_cases (ev : Event) (s : State) :
    monitorHook ev s = s ∨
    (ev = .correctSu ∧ s.ignoreMonitor = false ∧ s.state.inServiceGroup = true ∧ monitorHook ev s = inServiceGood s) ∨
    ((ev = .badFrame ∨ ev = .octetCountErr) ∧ s.ignoreMonitor = false ∧ s.state = .proving ∧
      monitorHook ev s = provingBad s) ∨
    ((ev = .badFrame ∨ ev = .octetCountErr) ∧ s.ignoreMonitor = false ∧ s.state.inServiceGroup = true ∧
      monitorHook ev s = inServiceBad s) := by
  unfold monitorHook monitorGoodHook monitorBadHook
  split
  · split <;> simp_all
  · split
    · split
      · simp_all
      · split <;> simp_all
    · simp

theorem monitorHook_frame (ev : Event) (s : State) : EventFrame s (monitorHook ev s) := by
  rcases monitorHook_cases ev s with h | ⟨-, -, -, h⟩ | ⟨-, -, -, h⟩ | ⟨-, -, -, h⟩ <;> rw [h]
  · exact .refl s
  · exact inServiceGood_frame s
  · exact provingBad_frame s
  · exact inServiceBad_frame s

theorem raise_frame (ev : Event) (a : EventArg) (s : State) : EventFrame s (raise ev a s) :=
  (monitorHook_frame ev s).trans (searchTable_frame ev a _)

/-- An event with no monitor hook is the table search alone (40_fsm.md R141). -/
theorem dispatch_of_no_hook {ev : Event} (h1 : ev ≠ .correctSu) (h2 : ev ≠ .badFrame) (h3 : ev ≠ .octetCountErr)
    (a : EventArg) (s : State) : dispatch ev a s = searchTable ev a s := by
  simp [dispatch, monitorHook, h1, h2, h3]

/-- The dispatches a monitor makes are dispatches like any other (40_fsm.md R145). -/
theorem raiseFromMonitor_eq_raise {ev : Event} (h : ev = .linkFailure ∨ ev = .abortProving) (s : State) :
    raiseFromMonitor ev s = raise ev EventArg.empty s := by
  rcases h with rfl | rfl <;> rfl

@[simp] theorem raise_tx (ev : Event) (a : EventArg) (s : State) : (raise ev a s).tx = s.tx := (raise_frame ev a s).tx
@[simp] theorem raise_rx (ev : Event) (a : EventArg) (s : State) : (raise ev a s).rx = s.rx := (raise_frame ev a s).rx
@[simp] theorem raise_rate64k (ev : Event) (a : EventArg) (s : State) : (raise ev a s).rate64k = s.rate64k :=
  (raise_frame ev a s).rate64k
@[simp] theorem raise_ignoreMonitor (ev : Event) (a : EventArg) (s : State) :
    (raise ev a s).ignoreMonitor = s.ignoreMonitor := (raise_frame ev a s).ignoreMonitor
@[simp] theorem raise_params (ev : Event) (a : EventArg) (s : State) : (raise ev a s).params = s.params :=
  (raise_frame ev a s).params
@[simp] theorem raise_cmds (ev : Event) (a : EventArg) (s : State) : (raise ev a s).cmds = s.cmds :=
  (raise_frame ev a s).cmds
@[simp] theorem raise_responses (ev : Event) (a : EventArg) (s : State) : (raise ev a s).responses = s.responses :=
  (raise_frame ev a s).responses

/-- A timer that is not armed at 0 is left alone; one that is, is disarmed and its event raised (45_timers.md
R370). -/
theorem expireTimer_cases (n : TimerId) (s : State) :
    expireTimer n s = s ∨
    ((getTimer n s).armed = true ∧ (getTimer n s).count = 0 ∧
      expireTimer n s = raise (timeoutEvent n) EventArg.empty (setTimer n ⟨false, 0⟩ s)) := by
  unfold expireTimer
  split
  · rename_i h
    refine .inr ⟨h.1, h.2, ?_⟩
    rw [← h.2]
  · exact .inl rfl

theorem expireTimer_frame (n : TimerId) (s : State) : EventFrame s (expireTimer n s) := by
  rcases expireTimer_cases n s with h | ⟨-, -, h⟩ <;> rw [h]
  · exact .refl s
  · exact (setTimer_frame _ _ _).trans (raise_frame _ _ _)

theorem tickTimers_frame (s : State) : EventFrame s (tickTimers s) :=
  EventFrame.trans (t := decrementTimers s) (.of_fields rfl rfl rfl rfl rfl rfl rfl [] (List.append_nil _).symm)
    ((expireTimer_frame .t1 _).trans ((expireTimer_frame .t2 _).trans
      ((expireTimer_frame .t3 _).trans (expireTimer_frame .t4 _))))

end Sys2Proof.Machine
end

