-- ==== Sys2Proof/Laws/Sequencing.lean ====
section
/-! SUPPORT. What each procedure of the sequencing component can do, said once (43_sequencing.md). -/

namespace Sys2Proof.Machine

/-- `takeSeq` finds the first entry with the number and marks it, or there is none. -/
theorem takeSeq_cases (want : Seq) (q : List Entry) :
    (takeSeq want q = none ∧ ∀ e ∈ q, e.seq ≠ want) ∨
    ∃ pre e post, q = pre ++ e :: post ∧ (∀ x ∈ pre, x.seq ≠ want) ∧ e.seq = want ∧
      takeSeq want q = some ({ e with transmitted := true }, pre ++ { e with transmitted := true } :: post) := by
  induction q with
  | nil => exact .inl ⟨rfl, by simp⟩
  | cons e q ih =>
    by_cases he : e.seq = want
    · exact .inr ⟨[], e, q, rfl, by simp, he, by simp [takeSeq, he]⟩
    · rcases ih with ⟨h, hne⟩ | ⟨pre, e', post, rfl, hne, hseq, h⟩
      · exact .inl ⟨by simp [takeSeq, he, h], by simpa [he] using hne⟩
      · exact .inr ⟨e :: pre, e', post, rfl, by simpa [he] using hne, hseq, by simp [takeSeq, he, h]⟩

/-- Select writes nothing and answers none, or sends the entry at `tx_seq + 1` (43_sequencing.md R316, R317). -/
theorem select_cases (s : State) :
    (select s = (none, s) ∧ (128 ≤ s.queue.length ∨ ∀ e ∈ s.queue, e.seq ≠ s.txSeq + 1)) ∨
    ∃ pre e post, s.queue.length < 128 ∧ s.queue = pre ++ e :: post ∧ (∀ x ∈ pre, x.seq ≠ s.txSeq + 1) ∧
      e.seq = s.txSeq + 1 ∧
      select s = (some { e with transmitted := true },
        { s with queue := pre ++ { e with transmitted := true } :: post, txSeq := e.seq }) := by
  unfold select
  split
  · rename_i h
    exact .inl ⟨rfl, .inl h⟩
  · rename_i hlen
    rcases takeSeq_cases (s.txSeq + 1) s.queue with ⟨h, hne⟩ | ⟨pre, e, post, hq, hne, hseq, h⟩
    · exact .inl ⟨by rw [h], .inr hne⟩
    · exact .inr ⟨pre, e, post, by simpa [Config.congestionLimit] using hlen, hq, hne, hseq, by rw [h]⟩

/-- The scan of Ack reaches the entry over transmitted entries only, or answers none (43_sequencing.md R320). -/
theorem ackScan_cases (bsn : Seq) (q : List Entry) :
    ackScan bsn q = none ∨
    ∃ pre e post, q = pre ++ e :: post ∧ (∀ x ∈ pre, x.transmitted = true ∧ x.seq ≠ bsn) ∧
      e.transmitted = true ∧ e.seq = bsn ∧ ackScan bsn q = some post := by
  induction q with
  | nil => exact .inl rfl
  | cons e q ih =>
    by_cases ht : e.transmitted = true
    · by_cases he : e.seq = bsn
      · exact .inr ⟨[], e, q, rfl, by simp, ht, he, by simp [ackScan, ht, he]⟩
      · rcases ih with h | ⟨pre, e', post, rfl, hpre, ht', hseq, h⟩
        · exact .inl (by simp [ackScan, ht, he, h])
        · exact .inr ⟨e :: pre, e', post, rfl, by simpa [ht, he] using hpre, ht', hseq, by
            simp [ackScan, ht, he, h]⟩
    · exact .inl (by simp [ackScan, ht])

/-- Ack leaves a suffix of the queue and nothing else changes (43_sequencing.md R320). -/
theorem ack_suffix (bsn : Seq) (s : State) : ∃ pre, s.queue = pre ++ (ack bsn s).queue := by
  rcases ackScan_cases bsn s.queue with h | ⟨pre, e, post, hq, -, -, -, h⟩
  · exact ⟨[], by simp [ack, h]⟩
  · have hpost : (ack bsn s).queue = post := by simp [ack, h]
    exact ⟨pre ++ [e], by rw [hpost, hq]; simp⟩

/-- Nack rewinds to `bsn` when a transmitted entry `bsn + 1` is queued, else changes nothing (43_sequencing.md
R322). -/
theorem nack_cases (bsn : Seq) (b : Bool) (s : State) :
    ((∃ e ∈ s.queue, e.transmitted = true ∧ e.seq = bsn + 1) ∧ nack bsn b s = { s with txSeq := bsn, fib := b }) ∨
    ((∀ e ∈ s.queue, e.transmitted = true → e.seq ≠ bsn + 1) ∧ nack bsn b s = s) := by
  unfold nack
  split
  · rename_i h
    exact .inl ⟨by simpa using h, rfl⟩
  · rename_i h
    exact .inr ⟨by simpa using h, rfl⟩

/-- ENQUEUE answers a code and changes nothing, or appends one entry (43_sequencing.md R310, R311). -/
theorem execEnqueue_cases (sio : Byte) (data : List Byte) (s : State) :
    (∃ c, execEnqueue sio data s = .next (respond (.enq c) s)) ∨
    (s.state = .inService ∧ 2 ≤ data.length ∧ s.queue.length < s.params.queueDepth ∧
      ∃ c, execEnqueue sio data s =
        .next (respond (.enq c) (appendEntry sio (data.take s.params.txMaxData) s))) := by
  unfold execEnqueue
  split
  · exact .inl ⟨_, rfl⟩
  · split
    · exact .inl ⟨_, rfl⟩
    · split
      · exact .inl ⟨_, rfl⟩
      · rename_i h1 h2 h3
        exact .inr ⟨by simpa using h1, by omega, by omega, _, rfl⟩

end Sys2Proof.Machine
end

