-- ==== Sys2Proof/Laws/Framer.lean ====
section
/-! SUPPORT. What the framer can do, said once: the transmitter (41_framer_tx.md) and the receiver
(42_framer_rx.md). -/

namespace Sys2Proof.Machine

/-! ### Transmitter -/

@[simp] theorem flipBib_eq (s : State) :
    flipBib s = { s with bib := if s.txNack then !s.bib else s.bib, txNack := false } := by
  cases h : s.txNack <;> simp [flipBib, h]
  rcases s with ⟨⟨⟩, _, _, _⟩; simp_all

/-- In POWER_OFF no frame is built and nothing is written (41_framer_tx.md R251). -/
theorem buildFrame_powerOff {s : State} (h : s.state = .powerOff) : buildFrame s = (false, s) := by
  simp [buildFrame, h]

/-- The frame chosen is an LSSU, a FISU, or the MSU of the entry Select marks (41_framer_tx.md R242). -/
theorem chooseBody_cases (s : State) :
    (∃ st, s.txLssu = some st ∧ chooseBody s = (lssuBody s st, s)) ∨
    (s.txLssu = none ∧ chooseBody s = (fisuBody s, s) ∧
      (128 ≤ s.queue.length ∨ ∀ e ∈ s.queue, e.seq ≠ s.txSeq + 1)) ∨
    (s.txLssu = none ∧ ∃ pre e post, s.queue.length < 128 ∧ s.queue = pre ++ e :: post ∧
      (∀ x ∈ pre, x.seq ≠ s.txSeq + 1) ∧ e.seq = s.txSeq + 1 ∧
      chooseBody s = (msuBody s { e with transmitted := true },
        { s with queue := pre ++ { e with transmitted := true } :: post, txSeq := e.seq })) := by
  unfold chooseBody
  cases h : s.txLssu with
  | some st => exact .inl ⟨st, rfl, rfl⟩
  | none =>
    rcases select_cases s with ⟨hsel, hq⟩ | ⟨pre, e, post, hl, hq, hne, hseq, hsel⟩
    · exact .inr (.inl ⟨rfl, by simp [hsel], hq⟩)
    · exact .inr (.inr ⟨rfl, pre, e, post, hl, hq, hne, hseq, by simp [hsel, h]⟩)

/-! ### Receiver -/

@[simp] theorem shiftIn_eq (b : Bool) (s : State) :
    shiftIn b s = { s with rx := { s.rx with sr := BitVec.ofBool b ++ s.rx.sr.extractLsb' 1 7 } } := rfl

/-- The counting step counts nothing, counts one bit, or reports an octet-count error (42_framer_rx.md R272). -/
theorem countOctetBit_cases (s : State) :
    (s.rx.ocActive = false ∧ countOctetBit s = s) ∨
    (s.rx.ocActive = true ∧ s.rx.ocBits + 1 ≠ 128 ∧
      countOctetBit s = { s with rx := { s.rx with ocBits := s.rx.ocBits + 1 } }) ∨
    (s.rx.ocActive = true ∧ s.rx.ocBits + 1 = 128 ∧
      countOctetBit s = raise .octetCountErr EventArg.empty { s with rx := { s.rx with ocBits := 0 } }) := by
  unfold countOctetBit Config.octetCountBits
  split
  · split <;> simp_all
  · simp_all

/-- What holds of a state, and is kept by a change of the receiver and by an event, holds after a frame is closed. -/
theorem closeFrame_induction {P : State → Prop} (hrx : ∀ s r, P s → P { s with rx := r })
    (hev : ∀ ev a s, P s → P (raise ev a s)) {s : State} (h : P s) : P (closeFrame s) := by
  unfold closeFrame
  split
  · unfold closeEmptyFrame
    split
    · dsimp only
      split
      · exact hev _ _ _ (hrx _ _ h)
      · exact hrx _ _ h
    · exact h
  · unfold closeFilledFrame
    dsimp only
    split
    · unfold goodFrame frameEvent
      have h' := hev .correctSu EventArg.empty _ (hrx _ { s.rx with flagRun := 0, ocActive := false, ocBits := 0 } h)
      split
      · exact hev _ _ _ h'
      · split
        · split
          · exact hev _ _ _ h'
          · exact h'
        · exact hev _ _ _ h'
    · exact hev _ _ _ (hrx _ _ h)

/-- What holds of a state, and is kept by a change of the receiver and by an event, holds after a received bit. -/
theorem receiveBit_induction {P : State → Prop} (hrx : ∀ s r, P s → P { s with rx := r })
    (hev : ∀ ev a s, P s → P (raise ev a s)) (b : Bool) {s : State} (h : P s) : P (receiveBit b s) := by
  have hc : P (countOctetBit (shiftIn b s)) := by
    rcases countOctetBit_cases (shiftIn b s) with ⟨-, he⟩ | ⟨-, -, he⟩ | ⟨-, -, he⟩ <;> rw [he]
    · exact hrx _ _ h
    · exact hrx _ _ (hrx _ _ h)
    · exact hev _ _ _ (hrx _ _ (hrx _ _ h))
  unfold receiveBit classifyBit
  generalize countOctetBit (shiftIn b s) = u at hc
  split
  · refine hrx _ _ ?_
    have h1 : P (restartOctetCount u) := by
      unfold restartOctetCount
      split
      · exact hrx _ _ hc
      · exact hc
    unfold closeOpenFrame
    split
    · exact closeFrame_induction hrx hev h1
    · exact h1
  · split
    · exact hrx _ _ hc
    · split
      · exact hc
      · unfold storeBit
        split
        · split
          · exact hev _ _ _ (hrx _ _ hc)
          · exact hrx _ _ hc
        · exact hc

end Sys2Proof.Machine
end

