-- ==== Sys2Proof/Laws/PerInstr.lean ====
section
/-! SUPPORT. The per-instruction family EncodedRow: the command word of every operation has the fixed bits of its row of
the opcode table (30_encoding.md R101, R104; spec/opcode_table.json). -/

namespace Sys2Proof.Laws.EncodedRow

/-- The fixed bits of an operation's row of the opcode table: their mask, and their values. -/
def fixedBits : Instr → CommandWord × CommandWord
  | .nop => (0xFFFF, 0x0000)
  | .rxBit _ => (0xFFFE, 0x1000)
  | .txBit => (0xFFFF, 0x2000)
  | .timerTick => (0xFFFF, 0x3000)
  | .eventPowerOn => (0xFFFF, 0x4000)
  | .eventStart => (0xFFFF, 0x4001)
  | .eventStop => (0xFFFF, 0x4002)
  | .eventEmergency => (0xFFFF, 0x4003)
  | .eventEmergencyCeases => (0xFFFF, 0x4004)
  | .eventLocalProcessorOutage => (0xFFFF, 0x4005)
  | .eventLocalProcessorRecovered => (0xFFFF, 0x4006)
  | .eventReserved7 => (0xFFFF, 0x4007)
  | .eventSioRx => (0xFFFF, 0x4008)
  | .eventSinRx => (0xFFFF, 0x4009)
  | .eventSieRx => (0xFFFF, 0x400A)
  | .eventSiosRx => (0xFFFF, 0x400B)
  | .eventSipoRx => (0xFFFF, 0x400C)
  | .eventSibRx => (0xFFFF, 0x400D)
  | .eventReserved14 => (0xFFFF, 0x400E)
  | .eventReserved15 => (0xFFFF, 0x400F)
  | .eventFisuRx _ => (0xFFFF, 0x4010)
  | .eventMsuRx _ => (0xFFFF, 0x4011)
  | .eventCorrectSu => (0xFFFF, 0x4012)
  | .eventBadFrame => (0xFFFF, 0x4013)
  | .eventOctetCountErr => (0xFFFF, 0x4014)
  | .eventAbortProving => (0xFFFF, 0x4015)
  | .eventLinkFailure => (0xFFFF, 0x4016)
  | .eventT1Timeout => (0xFFFF, 0x4017)
  | .eventT2Timeout => (0xFFFF, 0x4018)
  | .eventT3Timeout => (0xFFFF, 0x4019)
  | .eventT4Timeout => (0xFFFF, 0x401A)
  | .eventReserved27 => (0xFFFF, 0x401B)
  | .eventReserved28 => (0xFFFF, 0x401C)
  | .eventReserved29 => (0xFFFF, 0x401D)
  | .eventReserved30 => (0xFFFF, 0x401E)
  | .eventReserved31 => (0xFFFF, 0x401F)
  | .enqueue _ _ => (0xFF00, 0x5000)
  | .reservedOp6 _ => (0xF000, 0x6000)
  | .reservedOp7 _ => (0xF000, 0x7000)
  | .reservedOp8 _ => (0xF000, 0x8000)
  | .reservedOp9 _ => (0xF000, 0x9000)
  | .reservedOpA _ => (0xF000, 0xA000)
  | .reservedOpB _ => (0xF000, 0xB000)
  | .reservedOpC _ => (0xF000, 0xC000)
  | .reservedOpD _ => (0xF000, 0xD000)
  | .reservedOpE _ => (0xF000, 0xE000)
  | .reservedOpF _ => (0xF000, 0xF000)

/-- The command word of an operation has the fixed bits of its row. -/
def Statement (i : Instr) : Prop := encodeWord i &&& (fixedBits i).1 = (fixedBits i).2

/-- A word of two parts in disjoint bits keeps its fixed part under a mask that drops the other. -/
theorem fixed_part (a b m : CommandWord) (ha : a &&& m = a) (hb : b &&& m = 0) : (a ||| b) &&& m = a := by
  rw [BitVec.and_comm, BitVec.and_or_distrib_left, BitVec.and_comm m, BitVec.and_comm m, ha, hb]
  exact BitVec.or_zero

/-- A 12-bit operand leaves bits 15:12 alone. -/
theorem operand_part (x : BitVec 12) : x.setWidth 16 &&& (0xF000 : CommandWord) = 0 := by
  ext i hi; interval_cases i <;> simp

theorem nop : Statement .nop := rfl
theorem rxBit (b : Bool) : Statement (.rxBit b) := by cases b <;> rfl
theorem txBit : Statement .txBit := rfl
theorem timerTick : Statement .timerTick := rfl
theorem eventPowerOn : Statement .eventPowerOn := rfl
theorem eventStart : Statement .eventStart := rfl
theorem eventStop : Statement .eventStop := rfl
theorem eventEmergency : Statement .eventEmergency := rfl
theorem eventEmergencyCeases : Statement .eventEmergencyCeases := rfl
theorem eventLocalProcessorOutage : Statement .eventLocalProcessorOutage := rfl
theorem eventLocalProcessorRecovered : Statement .eventLocalProcessorRecovered := rfl
theorem eventReserved7 : Statement .eventReserved7 := rfl
theorem eventSioRx : Statement .eventSioRx := rfl
theorem eventSinRx : Statement .eventSinRx := rfl
theorem eventSieRx : Statement .eventSieRx := rfl
theorem eventSiosRx : Statement .eventSiosRx := rfl
theorem eventSipoRx : Statement .eventSipoRx := rfl
theorem eventSibRx : Statement .eventSibRx := rfl
theorem eventReserved14 : Statement .eventReserved14 := rfl
theorem eventReserved15 : Statement .eventReserved15 := rfl
theorem eventFisuRx (arg : EventArg) : Statement (.eventFisuRx arg) :=
  (by decide : (0x4010 : CommandWord) &&& 0xFFFF = 0x4010)
theorem eventMsuRx (arg : EventArg) : Statement (.eventMsuRx arg) :=
  (by decide : (0x4011 : CommandWord) &&& 0xFFFF = 0x4011)
theorem eventCorrectSu : Statement .eventCorrectSu := rfl
theorem eventBadFrame : Statement .eventBadFrame := rfl
theorem eventOctetCountErr : Statement .eventOctetCountErr := rfl
theorem eventAbortProving : Statement .eventAbortProving := rfl
theorem eventLinkFailure : Statement .eventLinkFailure := rfl
theorem eventT1Timeout : Statement .eventT1Timeout := rfl
theorem eventT2Timeout : Statement .eventT2Timeout := rfl
theorem eventT3Timeout : Statement .eventT3Timeout := rfl
theorem eventT4Timeout : Statement .eventT4Timeout := rfl
theorem eventReserved27 : Statement .eventReserved27 := rfl
theorem eventReserved28 : Statement .eventReserved28 := rfl
theorem eventReserved29 : Statement .eventReserved29 := rfl
theorem eventReserved30 : Statement .eventReserved30 := rfl
theorem eventReserved31 : Statement .eventReserved31 := rfl
theorem enqueue (sio : Byte) (data : List Byte) : Statement (.enqueue sio data) :=
  fixed_part 0x5000 _ 0xFF00 (by decide) (by ext i hi; interval_cases i <;> simp)
theorem reservedOp6 (operand : BitVec 12) : Statement (.reservedOp6 operand) :=
  fixed_part 0x6000 _ 0xF000 (by decide) (operand_part operand)
theorem reservedOp7 (operand : BitVec 12) : Statement (.reservedOp7 operand) :=
  fixed_part 0x7000 _ 0xF000 (by decide) (operand_part operand)
theorem reservedOp8 (operand : BitVec 12) : Statement (.reservedOp8 operand) :=
  fixed_part 0x8000 _ 0xF000 (by decide) (operand_part operand)
theorem reservedOp9 (operand : BitVec 12) : Statement (.reservedOp9 operand) :=
  fixed_part 0x9000 _ 0xF000 (by decide) (operand_part operand)
theorem reservedOpA (operand : BitVec 12) : Statement (.reservedOpA operand) :=
  fixed_part 0xA000 _ 0xF000 (by decide) (operand_part operand)
theorem reservedOpB (operand : BitVec 12) : Statement (.reservedOpB operand) :=
  fixed_part 0xB000 _ 0xF000 (by decide) (operand_part operand)
theorem reservedOpC (operand : BitVec 12) : Statement (.reservedOpC operand) :=
  fixed_part 0xC000 _ 0xF000 (by decide) (operand_part operand)
theorem reservedOpD (operand : BitVec 12) : Statement (.reservedOpD operand) :=
  fixed_part 0xD000 _ 0xF000 (by decide) (operand_part operand)
theorem reservedOpE (operand : BitVec 12) : Statement (.reservedOpE operand) :=
  fixed_part 0xE000 _ 0xF000 (by decide) (operand_part operand)
theorem reservedOpF (operand : BitVec 12) : Statement (.reservedOpF operand) :=
  fixed_part 0xF000 _ 0xF000 (by decide) (operand_part operand)

end Sys2Proof.Laws.EncodedRow
end

