-- ==== Sys2Proof/Laws/Step.lean ====
section
/-! SUPPORT. The step by cases: what is fetched, what is decoded. -/

namespace Sys2Proof.Machine

@[simp] theorem fetch_nil {s : State} (h : s.cmds = []) : fetch s = none := by simp [fetch, h]

@[simp] theorem fetch_cons {s : State} {c : Command} {rest : List Command} (h : s.cmds = c :: rest) :
    fetch s = some (c, { s with cmds := rest }) := by simp [fetch, h]

/-- An EVENT operation answers MATCHED or IGNORED after its dispatch (40_fsm.md R140). -/
theorem eventOp_eq (ev : Event) (a : EventArg) (s : State) :
    eventOp ev a s = .next (respond (if (dispatch ev a s).2 then .matched else .ignored) (raise ev a s)) := rfl

/-- The decoder's two answers (30_encoding.md R103). -/
theorem decode_cases (c : Command) :
    decode c = .ok (decodeOp c) ∨ decode c = .error (.reservedOperandBits (opField c.word)) := by
  unfold decode
  split
  · exact .inl rfl
  · exact .inr rfl

end Sys2Proof.Machine
end

