-- ==== Sys2Proof/Laws/Ports.lean ====
section
/-! SUPPORT. The block is a machine of its own: no operation reads the two ports to the host, and each leaves the
commands alone and answers once (10_state.md R20; log entries 1 and 2). -/

namespace Sys2Proof.Machine

/-- The state with other contents in the two ports to the host. -/
def State.withPorts (s : State) (cs : List Command) (rs : List Response) : State :=
  { s with cmds := cs, responses := rs }

@[simp] theorem withPorts_toBlock (s : State) (cs : List Command) (rs : List Response) :
    (s.withPorts cs rs).toBlock = s.toBlock := rfl
@[simp] theorem withPorts_params (s : State) (cs : List Command) (rs : List Response) :
    (s.withPorts cs rs).params = s.params := rfl

/-- A change of the state that neither reads nor writes the ports. -/
def IgnoresPorts (f : State → State) : Prop := ∀ s cs rs, f (s.withPorts cs rs) = (f s).withPorts cs rs

theorem IgnoresPorts.comp {f g : State → State} (hf : IgnoresPorts f) (hg : IgnoresPorts g) :
    IgnoresPorts fun s => f (g s) := fun s cs rs => by simp only [hg s cs rs, hf (g s) cs rs]

/-- A choice between two such changes, made by what the ports do not show. -/
theorem IgnoresPorts.ite {f g : State → State} {p : State → Prop} [DecidablePred p]
    (hp : ∀ s cs rs, p (s.withPorts cs rs) ↔ p s) (hf : IgnoresPorts f) (hg : IgnoresPorts g) :
    IgnoresPorts fun s => if p s then f s else g s := by
  intro s cs rs
  by_cases h : p s
  · simp only [if_pos h, if_pos ((hp s cs rs).2 h), hf s cs rs]
  · simp only [if_neg h, if_neg (mt (hp s cs rs).1 h), hg s cs rs]

theorem ignoresPorts_id : IgnoresPorts id := fun _ _ _ => rfl

theorem linkUp_ignoresPorts (st : LinkState) : IgnoresPorts (linkUp st) := fun _ _ _ => rfl

theorem ackOrNack_ignoresPorts (b : Seq) (i : Bool) : IgnoresPorts (ackOrNack b i) :=
  .ite (p := fun s => i = s.fib) (fun _ _ _ => .rfl) (fun _ _ _ => rfl)
    (.ite (p := fun s => (s.queue.any fun e => e.transmitted && e.seq == b + 1) = true) (fun _ _ _ => .rfl)
      (fun _ _ _ => rfl) ignoresPorts_id)

theorem acceptMsu_ignoresPorts (a : EventArg) : IgnoresPorts (acceptMsu a) :=
  .ite (p := fun s => a.fsn = s.rxSeq + 1 ∧ a.fib = s.bib) (fun _ _ _ => .rfl) (fun _ _ _ => rfl)
    (.ite (p := fun s => a.fsn ≠ s.rxSeq ∧ a.fib = s.bib) (fun _ _ _ => .rfl) (fun _ _ _ => rfl) ignoresPorts_id)

theorem seqRxFisu_ignoresPorts (a : EventArg) : IgnoresPorts (seqRxFisu a) := ackOrNack_ignoresPorts _ _
theorem seqRxMsu_ignoresPorts (a : EventArg) : IgnoresPorts (seqRxMsu a) :=
  (acceptMsu_ignoresPorts a).comp (ackOrNack_ignoresPorts _ _)

theorem remoteRecoveryCheck_ignoresPorts : IgnoresPorts remoteRecoveryCheck :=
  .ite (p := fun s => s.remoteOutage = true) (fun _ _ _ => .rfl)
    (.ite (p := fun s => s.localOutage = true) (fun _ _ _ => .rfl) (fun _ _ _ => rfl) fun _ _ _ => rfl) ignoresPorts_id

/-- No row reads or writes the ports (40_fsm.md R143). -/
theorem fsmTable_ignoresPorts : ∀ r ∈ fsmTable, ∀ a, IgnoresPorts (r.action a) := by
  have fisu := seqRxFisu_ignoresPorts
  have msu := seqRxMsu_ignoresPorts
  have abort : IgnoresPorts abortProving := fun s cs rs => by
    unfold abortProving; dsimp only [State.withPorts]; split <;> rfl
  have complete : IgnoresPorts provingComplete := fun s cs rs => by
    unfold provingComplete
    by_cases h : s.furtherProving = true <;> by_cases h' : s.localOutage = true <;>
      simp [State.withPorts, cancel, setTimer, arm, h, h'] <;> rfl
  have recorded : IgnoresPorts remoteOutageRecorded :=
    .ite (p := fun s => s.remoteOutage = true) (fun _ _ _ => .rfl) ignoresPorts_id fun _ _ _ => rfl
  have ends : IgnoresPorts localOutageEnds := fun s cs rs => by
    unfold localOutageEnds; dsimp only [State.withPorts]; split <;> rfl
  simp only [fsmTable, rowsAlignment, rowsService, List.cons_append, List.nil_append, List.forall_mem_cons,
    List.not_mem_nil, false_imp_iff, implies_true, and_true]
  refine ⟨?_, ?_, ?_, ?_, ?_, ?_, ?_, ?_, ?_, ?_, ?_, ?_, ?_, ?_, ?_, ?_, ?_, ?_, ?_, ?_, ?_, ?_, ?_, ?_, ?_, ?_, ?_, ?_,
    ?_, ?_, ?_, ?_, ?_, ?_, ?_, ?_, ?_, ?_, ?_, ?_, ?_⟩ <;> intro a <;>
    first
    | exact fun _ _ _ => rfl
    | exact abort
    | exact complete
    | exact recorded
    | exact ends
    | exact fisu a
    | exact msu a
    | exact (fisu a).comp (linkUp_ignoresPorts _)
    | exact (msu a).comp (linkUp_ignoresPorts _)
    | exact (fisu a).comp remoteRecoveryCheck_ignoresPorts
    | exact (msu a).comp remoteRecoveryCheck_ignoresPorts

theorem searchTable_withPorts (ev : Event) (a : EventArg) (s : State) (cs : List Command) (rs : List Response) :
    searchTable ev a (s.withPorts cs rs) = ((searchTable ev a s).1.withPorts cs rs, (searchTable ev a s).2) := by
  rw [searchTable_eq, searchTable_eq, withPorts_toBlock]
  cases h : matchingRow ev s.state with
  | none => rfl
  | some r => simp only [fsmTable_ignoresPorts r (List.mem_of_find?_eq_some h) a s cs rs]

theorem raiseFromMonitor_ignoresPorts (ev : Event) : IgnoresPorts (raiseFromMonitor ev) := fun s cs rs => by
  simp only [raiseFromMonitor, searchTable_withPorts]

/-- One bad event against a threshold (44_error_monitor.md R352, R356). -/
theorem threshold_ignoresPorts {count : State → State} {p : State → Prop} [DecidablePred p] (ev : Event)
    (hc : IgnoresPorts count) (hp : ∀ s cs rs, p (s.withPorts cs rs) ↔ p s) :
    IgnoresPorts fun s => if p (count s) then raiseFromMonitor ev (count s) else count s :=
  IgnoresPorts.comp (f := fun s => if p s then raiseFromMonitor ev s else s)
    (.ite hp (raiseFromMonitor_ignoresPorts ev) ignoresPorts_id) hc

theorem monitorHook_ignoresPorts (ev : Event) : IgnoresPorts (monitorHook ev) := by
  have good : IgnoresPorts inServiceGood :=
    .ite (p := fun s => s.monitorGood = Config.dGood - 1) (fun _ _ _ => .rfl) (fun _ _ _ => rfl) fun _ _ _ => rfl
  have bad : IgnoresPorts inServiceBad :=
    threshold_ignoresPorts (p := fun s => Config.tMonitor ≤ s.monitorErrors) .linkFailure
      (count := fun s => { s with monitorGood := 0, monitorErrors := s.monitorErrors + 1 }) (fun _ _ _ => rfl)
      fun _ _ _ => .rfl
  have proving : IgnoresPorts provingBad :=
    threshold_ignoresPorts (p := fun s => provingThreshold s ≤ s.provingErrors) .abortProving
      (count := fun s => { s with provingErrors := s.provingErrors + 1 }) (fun _ _ _ => rfl) fun _ _ _ => .rfl
  refine .ite (p := fun _ => ev = .correctSu) (fun _ _ _ => .rfl) ?_
    (.ite (p := fun _ => ev = .badFrame ∨ ev = .octetCountErr) (fun _ _ _ => .rfl) ?_ ignoresPorts_id)
  · exact .ite (p := fun s => (s.state.inServiceGroup && !s.ignoreMonitor) = true) (fun _ _ _ => .rfl) good
      ignoresPorts_id
  · exact .ite (p := fun s => s.state = .proving ∧ s.ignoreMonitor = false) (fun _ _ _ => .rfl) proving
      (.ite (p := fun s => (s.state.inServiceGroup && !s.ignoreMonitor) = true) (fun _ _ _ => .rfl) bad ignoresPorts_id)

theorem dispatch_withPorts (ev : Event) (a : EventArg) (s : State) (cs : List Command) (rs : List Response) :
    dispatch ev a (s.withPorts cs rs) = ((dispatch ev a s).1.withPorts cs rs, (dispatch ev a s).2) := by
  simp only [dispatch, monitorHook_ignoresPorts ev s cs rs, searchTable_withPorts]

theorem raise_ignoresPorts (ev : Event) (a : EventArg) : IgnoresPorts (raise ev a) := fun s cs rs => by
  simp only [raise, dispatch_withPorts]

/-! ### Timers -/

theorem expireTimer_ignoresPorts (n : TimerId) : IgnoresPorts (expireTimer n) := by
  cases n <;>
    exact .ite (p := fun s => (getTimer _ s).armed = true ∧ (getTimer _ s).count = 0) (fun _ _ _ => .rfl)
      ((raise_ignoresPorts _ _).comp (g := fun s => setTimer _ { getTimer _ s with armed := false } s) fun _ _ _ => rfl)
      ignoresPorts_id

theorem tickTimers_ignoresPorts : IgnoresPorts tickTimers :=
  (expireTimer_ignoresPorts .t4).comp ((expireTimer_ignoresPorts .t3).comp ((expireTimer_ignoresPorts .t2).comp
    ((expireTimer_ignoresPorts .t1).comp (g := decrementTimers) fun _ _ _ => rfl)))

/-! ### Transmitter -/

theorem select_withPorts (s : State) (cs : List Command) (rs : List Response) :
    select (s.withPorts cs rs) = ((select s).1, (select s).2.withPorts cs rs) := by
  by_cases h : Config.congestionLimit ≤ s.queue.length
  · simp [select, h]
  · unfold select
    rw [if_neg h, if_neg (show ¬Config.congestionLimit ≤ (s.withPorts cs rs).queue.length from h), withPorts_toBlock]
    cases takeSeq (s.txSeq + 1) s.queue <;> rfl

theorem chooseBody_withPorts (s : State) (cs : List Command) (rs : List Response) :
    chooseBody (s.withPorts cs rs) = ((chooseBody s).1, (chooseBody s).2.withPorts cs rs) := by
  unfold chooseBody
  rw [select_withPorts, withPorts_toBlock]
  cases s.txLssu with
  | some status => rfl
  | none => rcases select s with ⟨_ | m, u⟩ <;> rfl

theorem buildFrame_withPorts (s : State) (cs : List Command) (rs : List Response) :
    buildFrame (s.withPorts cs rs) = ((buildFrame s).1, (buildFrame s).2.withPorts cs rs) := by
  have flip : IgnoresPorts flipBib :=
    .ite (p := fun s => s.txNack = true) (fun _ _ _ => .rfl) (fun _ _ _ => rfl) ignoresPorts_id
  by_cases h : s.state = .powerOff
  · simp [buildFrame, h]
  · simp only [buildFrame, flip s cs rs, chooseBody_withPorts, withPorts_toBlock, if_neg h]; rfl

theorem startFlag_ignoresPorts : IgnoresPorts startFlag :=
  .ite (p := fun s => s.tx.flagIdx = 0) (fun _ _ _ => .rfl)
    (fun s cs rs => by simp only [buildFrame_withPorts]; rfl) ignoresPorts_id

theorem sendBit_withPorts (s : State) (cs : List Command) (rs : List Response) :
    sendBit (s.withPorts cs rs) = ((sendBit s).1, (sendBit s).2.withPorts cs rs) := by
  simp only [sendBit, startFlag_ignoresPorts s cs rs, withPorts_toBlock]
  cases s.tx.phase <;> rfl

/-! ### Receiver -/

theorem closeFrame_ignoresPorts : IgnoresPorts closeFrame := by
  have bad := raise_ignoresPorts .badFrame EventArg.empty
  have empty : IgnoresPorts closeEmptyFrame :=
    .ite (p := fun s => s.rx.flagRun < max s.params.flagLimit 1) (fun _ _ _ => .rfl)
      (IgnoresPorts.comp (g := fun s => { s with rx := { s.rx with flagRun := s.rx.flagRun + 1 } })
        (.ite (p := fun s => s.params.flagLimit ≠ 0 ∧ s.rx.flagRun = s.params.flagLimit) (fun _ _ _ => .rfl) bad
          ignoresPorts_id) fun _ _ _ => rfl)
      ignoresPorts_id
  have own (f : List Byte) (n : Nat) : IgnoresPorts (frameEvent f n) := by
    refine .ite (p := fun _ => n - 5 = 0) (fun _ _ _ => .rfl) (raise_ignoresPorts _ _)
      (.ite (p := fun _ => n - 5 ≤ 2) (fun _ _ _ => .rfl) ?_ (raise_ignoresPorts _ _))
    cases lssuEvent ((f.getD 3 0).extractLsb' 0 3) with
    | some ev => exact raise_ignoresPorts ev _
    | none => exact ignoresPorts_id
  have good (f : List Byte) (n : Nat) : IgnoresPorts (goodFrame f n) :=
    (own f n).comp ((raise_ignoresPorts .correctSu EventArg.empty).comp
      (g := fun s => { s with rx := { s.rx with ocActive := false, ocBits := 0 } }) fun _ _ _ => rfl)
  have filled (nb : Nat) : IgnoresPorts (closeFilledFrame nb) :=
    .ite (p := fun s => frameOk s.params.crc16 nb (bytesOfBits s.rx.bits (nb / 8)) = true) (fun _ _ _ => .rfl)
      (fun s => good (bytesOfBits s.rx.bits (nb / 8)) (nb / 8) { s with rx := { s.rx with flagRun := 0 } })
      (bad.comp (g := fun s => { s with rx := { s.rx with flagRun := 0 } }) fun _ _ _ => rfl)
  exact .ite (p := fun s => s.rx.nbits ≤ 7) (fun _ _ _ => .rfl) empty fun s => filled (s.rx.nbits - 7) s

theorem receiveBit_ignoresPorts (b : Bool) : IgnoresPorts (receiveBit b) := by
  have count : IgnoresPorts countOctetBit :=
    .ite (p := fun s => s.rx.ocActive = true) (fun _ _ _ => .rfl)
      (.ite (p := fun s => s.rx.ocBits + 1 = Config.octetCountBits) (fun _ _ _ => .rfl)
        ((raise_ignoresPorts _ _).comp (g := fun s => { s with rx := { s.rx with ocBits := 0 } }) fun _ _ _ => rfl)
        fun _ _ _ => rfl)
      ignoresPorts_id
  have flag : IgnoresPorts flagReceived :=
    IgnoresPorts.comp (f := openFrame) (fun _ _ _ => rfl) (IgnoresPorts.comp
      (.ite (p := fun s => s.rx.inFrame = true) (fun _ _ _ => .rfl) closeFrame_ignoresPorts ignoresPorts_id)
      (.ite (p := fun s => s.rx.ocActive = true) (fun _ _ _ => .rfl) (fun _ _ _ => rfl) ignoresPorts_id))
  have store : IgnoresPorts (storeBit b) :=
    .ite (p := fun s => s.rx.inFrame = true) (fun _ _ _ => .rfl)
      (.ite (p := fun s => s.rx.nbits = rxBitLimit s) (fun _ _ _ => .rfl)
        ((raise_ignoresPorts _ _).comp
          (g := fun s => { s with rx := { clearStore s.rx with inFrame := false, flagRun := 0 } }) fun _ _ _ => rfl)
        fun _ _ _ => rfl)
      ignoresPorts_id
  have classify : IgnoresPorts (classifyBit b) :=
    .ite (p := fun s => flagInSr s.rx.sr = true) (fun _ _ _ => .rfl) flag
      (.ite (p := fun s => abortInSr s.rx.sr = true) (fun _ _ _ => .rfl) (fun _ _ _ => rfl)
        (.ite (p := fun s => stuffedInSr s.rx.sr = true) (fun _ _ _ => .rfl) ignoresPorts_id store))
  exact classify.comp (count.comp (g := shiftIn b) fun _ _ _ => rfl)

/-! ### Every operation -/

/-- What an operation is to the block: an effect and an answer that do not depend on the ports (30_encoding.md R106). -/
def AnswersOnce (o : State → Host.Outcome State Fault Refusal) : Prop :=
  ∃ (f : State → State) (r : State → Response), IgnoresPorts f ∧ (∀ s cs rs, r (s.withPorts cs rs) = r s) ∧
    ∀ s, o s = .next (respond (r s) (f s))

theorem eventOp_answersOnce (ev : Event) (a : EventArg) : AnswersOnce (eventOp ev a) :=
  ⟨raise ev a, fun s => if (dispatch ev a s).2 then .matched else .ignored, raise_ignoresPorts ev a,
    fun s cs rs => by simp only [dispatch_withPorts], fun _ => rfl⟩

theorem enqueue_answersOnce (sio : Byte) (data : List Byte) : AnswersOnce (execEnqueue sio data) := by
  refine ⟨fun s => if s.state ≠ .inService then s else if data.length < 2 then s
      else if s.params.queueDepth ≤ s.queue.length then s
      else appendEntry sio (data.take s.params.txMaxData) s,
    fun s => .enq (if s.state ≠ .inService then .notInService else if data.length < 2 then .tooShort
      else if s.params.queueDepth ≤ s.queue.length then .queueFull
      else if s.params.txMaxData < data.length then .truncated else .accepted), ?_, fun _ _ _ => rfl, ?_⟩
  · exact .ite (p := fun s => s.state ≠ .inService) (fun _ _ _ => .rfl) ignoresPorts_id
      (.ite (p := fun _ => data.length < 2) (fun _ _ _ => .rfl) ignoresPorts_id
        (.ite (p := fun s => s.params.queueDepth ≤ s.queue.length) (fun _ _ _ => .rfl) ignoresPorts_id
          fun _ _ _ => rfl))
  · intro s
    simp only [execEnqueue]
    split_ifs <;> rfl

theorem exec_answersOnce (i : Instr) : AnswersOnce (exec i) := by
  have same (r : Response) : AnswersOnce fun s => .next (respond r s) :=
    ⟨id, fun _ => r, ignoresPorts_id, fun _ _ _ => rfl, fun _ => rfl⟩
  cases i <;>
    first
    | exact eventOp_answersOnce _ _
    | exact same .ok
    | exact same .illegal
    | exact enqueue_answersOnce _ _
    | exact ⟨receiveBit _, fun _ => .ok, receiveBit_ignoresPorts _, fun _ _ _ => rfl, fun _ => rfl⟩
    | exact ⟨tickTimers, fun _ => .ok, tickTimers_ignoresPorts, fun _ _ _ => rfl, fun _ => rfl⟩
    | exact ⟨fun s => (sendBit s).2, fun s => .bit (sendBit s).1, fun s cs rs => by simp only [sendBit_withPorts],
        fun s cs rs => by simp only [sendBit_withPorts], fun _ => rfl⟩

/-- The block and its parameters after an operation, and the answer, are a function of the block and the parameters
before it: the commands are left alone and one response is appended, whatever the ports hold (10_state.md R20). -/
theorem exec_block (i : Instr) (s : State) :
    ∃ (t : State) (r : Response), (∀ cs rs, exec i (s.withPorts cs rs) = .next (t.withPorts cs (rs ++ [r]))) ∧
      exec i s = .next (t.withPorts s.cmds (s.responses ++ [r])) := by
  obtain ⟨f, r, hf, hr, h⟩ := exec_answersOnce i
  have key : ∀ cs rs, exec i (s.withPorts cs rs) = .next ((f s).withPorts cs (rs ++ [r s])) := fun cs rs => by
    rw [h, hf, hr]; rfl
  exact ⟨f s, r s, key, key s.cmds s.responses⟩

end Sys2Proof.Machine
end

