-- ==== Sys2Proof/Tests/Slice0.lean ====
section
/-! SUPPORT. Tests on small states: the decoding of a word of every operation, the well-formedness checks, one step per
operation with the values of the spec's examples, and for every statement with hypotheses a state that meets them. -/

namespace Sys2Proof.Tests

open Sys2Proof.Machine

/-! ### Decoding: words written out from 30_encoding.md R101 and R104 -/

/-- R101: op 0 to 3. -/
theorem test_decode_plain : ∀ p ∈ [
      ((0b0000000000000000 : CommandWord), Instr.nop),
      (0b0001000000000000, Instr.rxBit false),
      (0b0001000000000001, Instr.rxBit true),
      (0b0010000000000000, Instr.txBit),
      (0b0011000000000000, Instr.timerTick)],
    decode (.ofWord p.1) = .ok p.2 := by decide

/-- R104: event codes 0 to 15. -/
theorem test_decode_events_low : ∀ p ∈ ([
      (0b0100000000000000, Instr.eventPowerOn),
      (0b0100000000000001, Instr.eventStart),
      (0b0100000000000010, Instr.eventStop),
      (0b0100000000000011, Instr.eventEmergency),
      (0b0100000000000100, Instr.eventEmergencyCeases),
      (0b0100000000000101, Instr.eventLocalProcessorOutage),
      (0b0100000000000110, Instr.eventLocalProcessorRecovered),
      (0b0100000000000111, Instr.eventReserved7),
      (0b0100000000001000, Instr.eventSioRx),
      (0b0100000000001001, Instr.eventSinRx),
      (0b0100000000001010, Instr.eventSieRx),
      (0b0100000000001011, Instr.eventSiosRx),
      (0b0100000000001100, Instr.eventSipoRx),
      (0b0100000000001101, Instr.eventSibRx),
      (0b0100000000001110, Instr.eventReserved14),
      (0b0100000000001111, Instr.eventReserved15)] : List (CommandWord × Instr)),
    decode (.ofWord p.1) = .ok p.2 := by decide

/-- R104: event codes 16 to 31. -/
theorem test_decode_events_high : ∀ p ∈ ([
      (0b0100000000010000, Instr.eventFisuRx EventArg.empty),
      (0b0100000000010001, Instr.eventMsuRx EventArg.empty),
      (0b0100000000010010, Instr.eventCorrectSu),
      (0b0100000000010011, Instr.eventBadFrame),
      (0b0100000000010100, Instr.eventOctetCountErr),
      (0b0100000000010101, Instr.eventAbortProving),
      (0b0100000000010110, Instr.eventLinkFailure),
      (0b0100000000010111, Instr.eventT1Timeout),
      (0b0100000000011000, Instr.eventT2Timeout),
      (0b0100000000011001, Instr.eventT3Timeout),
      (0b0100000000011010, Instr.eventT4Timeout),
      (0b0100000000011011, Instr.eventReserved27),
      (0b0100000000011100, Instr.eventReserved28),
      (0b0100000000011101, Instr.eventReserved29),
      (0b0100000000011110, Instr.eventReserved30),
      (0b0100000000011111, Instr.eventReserved31)] : List (CommandWord × Instr)),
    decode (.ofWord p.1) = .ok p.2 := by decide

/-- R101, R105: the side arguments of ENQUEUE, FISU_RX and MSU_RX. -/
theorem test_decode_side_arguments :
    decode ⟨0b0101000011001101, EventArg.empty, [1, 2, 3]⟩ = .ok (.enqueue 0xCD [1, 2, 3]) ∧
    decode ⟨0b0100000000010000, ⟨3, false, 127, true, 0, []⟩, []⟩ = .ok (.eventFisuRx ⟨3, false, 127, true, 0, []⟩) ∧
    decode ⟨0b0100000000010001, ⟨127, true, 0, true, 0xCD, [1, 2]⟩, []⟩ =
      .ok (.eventMsuRx ⟨127, true, 0, true, 0xCD, [1, 2]⟩) := by decide

/-- R103: the reserved operations, with their lowest, highest and a middle operand bit. -/
theorem test_decode_reserved : ∀ p ∈ ([
      (0b0110000000000001, Instr.reservedOp6 1), (0b0111100000000000, Instr.reservedOp7 0x800),
      (0b1000000000000000, Instr.reservedOp8 0), (0b1001111111111111, Instr.reservedOp9 0xFFF),
      (0b1010000000010000, Instr.reservedOpA 0x10), (0b1011000000000001, Instr.reservedOpB 1),
      (0b1100100000000000, Instr.reservedOpC 0x800), (0b1101000000000000, Instr.reservedOpD 0),
      (0b1110111111111111, Instr.reservedOpE 0xFFF), (0b1111000100100011, Instr.reservedOpF 0x123)] :
        List (CommandWord × Instr)),
    decode (.ofWord p.1) = .ok p.2 := by decide

/-- R103: a 1 in the lowest and the highest operand bit that must be 0. -/
theorem test_decode_refuses : ∀ w ∈ [0x0001, 0x0800, 0x1002, 0x1800, 0x2001, 0x2800, 0x3001, 0x3800, 0x4020, 0x4800,
      0x5100, 0x5800],
    decodeTableWord 16 w = none := by decide

/-- The word the host numbers, and the step that runs it first after reset. -/
theorem test_table_word : decodeTableWord 16 0x4001 = some .eventStart ∧ decodeTableWord 16 0x2001 = none := by decide

theorem test_step_runs_placed_word :
    step (State.reset.withFetchWord 16 0x4000) = exec .eventPowerOn State.reset := rfl

/-! ### Well-formedness: an ill-formed term for each check -/

theorem test_wf_refuses_argument : Command.wf ⟨0x4001, ⟨1, false, 0, false, 0, []⟩, []⟩ = false := by decide
theorem test_wf_refuses_data : Command.wf ⟨0x4010, EventArg.empty, [1]⟩ = false := by decide
theorem test_wf_accepts : Command.wf ⟨0x4011, ⟨1, false, 0, false, 0, [1]⟩, []⟩ = true ∧
    Command.wf ⟨0x50FF, EventArg.empty, [1]⟩ = true ∧ Command.wf (.ofWord 0x0000) = true := by decide

/-- The parameters of 95_test_vectors.md section 0. -/
def testParams : Config.Params := ⟨⟨20, 20⟩, ⟨10, 10⟩, ⟨5, 5⟩, ⟨8, 8⟩, ⟨2, 2⟩, 278, 272, 127, 0, .x25⟩

theorem test_params_wf : testParams.wf = true := by decide
theorem test_params_refused : ∀ p ∈ [
      { testParams with t1Dur := ⟨0, 1⟩ }, { testParams with t1Dur := ⟨1, 0⟩ }, { testParams with t2Dur := ⟨0, 1⟩ },
      { testParams with t3Dur := ⟨0, 1⟩ }, { testParams with t4nDur := ⟨0, 1⟩ }, { testParams with t4eDur := ⟨0, 1⟩ },
      { testParams with rxMaxBytes := 4 }, { testParams with txMaxData := 1 }, { testParams with queueDepth := 0 }],
    p.wf = false := by decide

/-! ### The operand forms: the worked values of 41_framer_tx.md -/

/-- R244: the check value of the CRC, and its example. -/
theorem test_crc_check_value :
    crc16 .x25 [0x31, 0x32, 0x33, 0x34, 0x35, 0x36, 0x37, 0x38, 0x39] = 0x906E ∧
      crc16 .x25 [0xFF, 0xFF, 0x00] = 0xFFFF := by decide +kernel

/-- R248: "111110111110111110100000000". -/
theorem test_stuff : stuff [0xFF, 0xFF, 0x00] =
    [true, true, true, true, true, false, true, true, true, true, true, false, true, true, true, true, true, false,
      true, false, false, false, false, false, false, false, false] := by decide

/-- R281: a length indicator of 63 passes at 70 bytes of payload and fails at 62; bits 7:6 are ignored. -/
theorem test_length_indicator : liOk 63 70 = true ∧ liOk 63 62 = false ∧ liOk 0xC5 5 = true := by decide

/-! ### One step per operation -/

/-- Reset, with the parameters of 95_test_vectors.md section 0, in a given state. -/
def inState (st : LinkState) : State :=
  { State.reset with state := st, params := testParams, rate64k := true, ignoreMonitor := false }

/-- A view of the next state; none for a stop. -/
def view {α : Type} (f : State → α) (o : Host.Outcome State Fault Refusal) : Option α :=
  match o with
  | .next t => some (f t)
  | .fault _ => none
  | .refused _ => none

/-- R102. -/
theorem test_nop : view (fun t => (t.state, t.responses)) (exec .nop (inState .powerOff)) =
    some (.powerOff, [.ok]) := by decide

/-- R103, the reserved operations. -/
theorem test_reserved_ops : ∀ i ∈ [Instr.reservedOp6 1, .reservedOp7 2, .reservedOp8 3, .reservedOp9 4, .reservedOpA 5,
      .reservedOpB 6, .reservedOpC 7, .reservedOpD 8, .reservedOpE 9, .reservedOpF 10],
    view (fun t => (t.state, t.responses)) (exec i (inState .inService)) = some (.inService, [.illegal]) := by decide

/-- R140, R187: the reserved event codes and SIB_RX. -/
theorem test_reserved_events : ∀ i ∈ [Instr.eventReserved7, .eventReserved14, .eventReserved15, .eventReserved27,
      .eventReserved28, .eventReserved29, .eventReserved30, .eventReserved31, .eventSibRx],
    view (fun t => (t.state, t.responses)) (exec i (inState .inService)) = some (.inService, [.ignored]) := by decide

/-- R151: "from reset (POFF), `ev POWER_ON` gives OOS with `tx_lssu = SIOS` and all sequence numbers 127". -/
theorem test_power_on : view (fun t => (t.state, t.txLssu, t.txSeq, t.rxSeq, t.txQueueSeq))
    (exec .eventPowerOn (inState .powerOff)) = some (.outOfService, some 3, 127, 127, 127) := by decide

/-- R152: "IS with three queued messages, `ev STOP` gives OOS, empty queue, `ind_out` unchanged". -/
theorem test_stop : view (fun t => (t.state, t.queue, t.indOut)) (exec .eventStop
    { inState .inService with queue := [⟨0, 1, [1, 2], true⟩, ⟨1, 1, [3, 4], false⟩, ⟨2, 1, [5, 6], false⟩] }) =
    some (.outOfService, [], []) := by decide

/-- R153. -/
theorem test_emergency : view (·.localEmergency) (exec .eventEmergency (inState .outOfService)) = some true := by decide

/-- R154. -/
theorem test_emergency_ceases : view (·.localEmergency)
    (exec .eventEmergencyCeases { inState .outOfService with localEmergency := true }) = some false := by decide

/-- R155: "inject `START` → state becomes Not-Aligned and T2 is armed". -/
theorem test_start : view (fun t => (t.state, t.txLssu, t.t2)) (exec .eventStart (inState .outOfService)) =
    some (.notAligned, some 0, ⟨true, 10⟩) := by decide

/-- R155: START in POFF is ignored. -/
theorem test_start_ignored : view (fun t => (t.state, t.responses)) (exec .eventStart (inState .powerOff)) =
    some (.powerOff, [.ignored]) := by decide

/-- R156: "NA, SIO received, gives AL, `tx_lssu = SIN`, T2 cancelled, T3 armed". -/
theorem test_sio : view (fun t => (t.state, t.txLssu, t.t2, t.t3))
    (exec .eventSioRx { inState .notAligned with t2 := ⟨true, 4⟩ }) =
    some (.aligned, some 1, ⟨false, 0⟩, ⟨true, 5⟩) := by decide

/-- R161: "AL, SIN received, gives PR with T4 armed for T4N_DUR". -/
theorem test_sin : view (fun t => (t.state, t.t3, t.t4)) (exec .eventSinRx { inState .aligned with t3 := ⟨true, 2⟩ }) =
    some (.proving, ⟨false, 0⟩, ⟨true, 8⟩) := by decide

/-- R162: "AL, SIE received, gives PR with T4 armed for T4E_DUR". -/
theorem test_sie : view (fun t => (t.state, t.remoteEmergency, t.t4)) (exec .eventSieRx (inState .aligned)) =
    some (.proving, true, ⟨true, 2⟩) := by decide

/-- R158: "NA, SIE received, gives AL, `tx_lssu = SIN`, `remote_emergency = 1`". -/
theorem test_sie_not_aligned : view (fun t => (t.state, t.txLssu, t.remoteEmergency))
    (exec .eventSieRx (inState .notAligned)) = some (.aligned, some 1, true) := by decide

/-- R163: "AL, SIOS received, gives OOS and OUT_OF_SERVICE(5)". -/
theorem test_sios : view (fun t => (t.state, t.indOut)) (exec .eventSiosRx (inState .aligned)) =
    some (.outOfService, [.outOfService .provingFailureRemote]) := by decide

/-- R190: "IS, SIPO received, gives PO, `remote_outage = 1`, REMOTE_PROCESSOR_OUTAGE". -/
theorem test_sipo : view (fun t => (t.state, t.remoteOutage, t.indOut)) (exec .eventSipoRx (inState .inService)) =
    some (.processorOutage, true, [.remoteProcessorOutage]) := by decide

/-- R188: "queue holding transmitted seq 0 and 1, FISU with `bsn = 0`, `bib = fib` frees seq 0". -/
theorem test_fisu : view (·.queue) (exec (.eventFisuRx ⟨0, true, 127, true, 0, []⟩)
    { inState .inService with queue := [⟨0, 1, [1, 2], true⟩, ⟨1, 1, [3, 4], true⟩] }) =
    some [⟨1, 1, [3, 4], true⟩] := by decide

/-- R189: "`rx_seq = 0` and DATA(0xCD, `01 02`)". -/
theorem test_msu : view (fun t => (t.rxSeq, t.indOut)) (exec (.eventMsuRx ⟨127, true, 0, true, 0xCD, [1, 2]⟩)
    (inState .inService)) = some (0, [.data 0xCD [1, 2]]) := by decide

/-- R192: "`ind_out` gains IN_SERVICE then DATA". -/
theorem test_msu_ready : view (fun t => (t.state, t.indOut)) (exec (.eventMsuRx ⟨127, true, 0, true, 1, [1, 2]⟩)
    (inState .alignedReady)) = some (.inService, [.inService, .data 1 [1, 2]]) := by decide

/-- R355: "`monitor_errors = 3`, `monitor_good = 255`, one good frame gives `monitor_errors = 2`, `monitor_good = 0`". -/
theorem test_correct_su : view (fun t => (t.monitorErrors, t.monitorGood)) (exec .eventCorrectSu
    { inState .inService with monitorErrors := 3, monitorGood := 255 }) = some (2, 0) := by decide

/-- R352: the fourth bad event in PROVING, with no emergency: ABORT_PROVING. -/
theorem test_bad_frame : view (fun t => (t.provingErrors, t.provingTry, t.furtherProving, t.responses))
    (exec .eventBadFrame { inState .proving with provingErrors := 3 }) = some (0, 1, true, [.ignored]) := by decide

/-- R356: the sixteenth bad event in service. -/
theorem test_octet_count_err : view (fun t => (t.state, t.indOut)) (exec .eventOctetCountErr
    { inState .inService with monitorErrors := 15 }) =
    some (.outOfService, [.outOfService .linkFailureLocal]) := by decide

/-- R171: "PR with `proving_try = 4`, `ev ABORT_PROVING` gives OOS and OUT_OF_SERVICE(4)". -/
theorem test_abort_proving : view (fun t => (t.state, t.indOut)) (exec .eventAbortProving
    { inState .proving with provingTry := 4 }) =
    some (.outOfService, [.outOfService .provingFailureLocal]) := by decide

/-- R180, in PROCESSOR_OUTAGE. -/
theorem test_link_failure : view (fun t => (t.state, t.indOut)) (exec .eventLinkFailure (inState .processorOutage)) =
    some (.outOfService, [.outOfService .linkFailureLocal]) := by decide

/-- R181. -/
theorem test_t1_timeout : view (fun t => (t.state, t.indOut)) (exec .eventT1Timeout (inState .alignedNotReady)) =
    some (.outOfService, [.outOfService .linkFailureLocal]) := by decide

/-- R159. -/
theorem test_t2_timeout : view (fun t => (t.state, t.indOut)) (exec .eventT2Timeout (inState .notAligned)) =
    some (.outOfService, [.outOfService .alignmentTimeout]) := by decide

/-- R164. -/
theorem test_t3_timeout : view (fun t => (t.state, t.indOut)) (exec .eventT3Timeout (inState .aligned)) =
    some (.outOfService, [.outOfService .provingTimeout]) := by decide

/-- R173: "state becomes Aligned-Ready (assuming no local outage), T1 armed". -/
theorem test_t4_timeout : view (fun t => (t.state, t.txLssu, t.t1)) (exec .eventT4Timeout (inState .proving)) =
    some (.alignedReady, none, ⟨true, 20⟩) := by decide

/-- R204: "PR, `ev LOCAL_PROCESSOR_OUTAGE`, then T4 expiry gives ANR with `tx_lssu = SIPO`"; here the second step. -/
theorem test_t4_timeout_outage : view (fun t => (t.state, t.txLssu, t.t1)) (exec .eventT4Timeout
    { inState .proving with localOutage := true }) = some (.alignedNotReady, some 4, ⟨true, 20⟩) := by decide

/-- R198. -/
theorem test_local_outage : view (fun t => (t.state, t.txLssu, t.localOutage)) (exec .eventLocalProcessorOutage
    { inState .inService with txLssu := none }) = some (.processorOutage, some 4, true) := by decide

/-- R203: "IS and REMOTE_PROCESSOR_RECOVERED". -/
theorem test_local_recovered : view (fun t => (t.state, t.txLssu, t.indOut)) (exec .eventLocalProcessorRecovered
    { inState .processorOutage with localOutage := true, txLssu := some 4 }) =
    some (.inService, none, [.remoteProcessorRecovered]) := by decide

/-- R370: "NA with `t_count[2] = 1`: `tick` gives OUT_OF_SERVICE(1) and OOS". -/
theorem test_tick : view (fun t => (t.state, t.indOut)) (exec .timerTick { inState .notAligned with t2 := ⟨true, 1⟩ }) =
    some (.outOfService, [.outOfService .alignmentTimeout]) := by decide

/-- R310: the example of ENQUEUE. -/
theorem test_enqueue : view (fun t => (t.queue, t.responses)) (exec (.enqueue 0xCD [1, 2, 3, 4, 5, 6])
    (inState .inService)) = some ([⟨0, 0xCD, [1, 2, 3, 4, 5, 6], false⟩], [.enq .accepted]) := by decide

/-- R310: "a short message offered outside IS answers 2". -/
theorem test_enqueue_order : view (·.responses) (exec (.enqueue 0 [1]) (inState .processorOutage)) =
    some [.enq .notInService] := by decide

/-- R242: "after `ev POWER_ON` the first frame built is `FF FF 01 03 BC D4`". -/
theorem test_tx_builds_sios : view (fun t => (t.tx.buf, t.responses)) (exec .txBit (inState .outOfService)) =
    some ([0xFF, 0xFF, 0x01, 0x03, 0xBC, 0xD4], [.bit false]) := by decide +kernel

/-- R253: the FISU `85 82 00 E1 4C`. -/
theorem test_tx_builds_fisu : view (·.tx.buf) (exec .txBit
    { inState .inService with txLssu := none, txSeq := 2, fib := true, rxSeq := 5, bib := true }) =
    some [0x85, 0x82, 0x00, 0xE1, 0x4C] := by decide +kernel

/-- R273: the last bit of a flag after reset; 0xFC is what its six 1s leave, with or without its first 0 (log entry
22). -/
theorem test_rx_flag : view (fun t => (t.rx.inFrame, t.rx.nbits, t.rx.sr)) (exec (.rxBit false)
    { inState .outOfService with rx := { RxState.reset with sr := 0xFC } }) = some (true, 0, 0x7E) := by decide

/-- R277, R288: the bit beyond a store of RX_MAX_BYTES = 278 ends the frame and restarts the run of empty frames. -/
theorem test_rx_too_long : view (fun t => (t.rx.inFrame, t.rx.nbits, t.rx.flagRun, t.monitorErrors)) (exec (.rxBit true)
    { inState .inService with
      rx := { RxState.reset with sr := 0x01, inFrame := true, nbits := 8 * 278 + 7, flagRun := 1 } }) =
    some (false, 0, 0, 1) := by decide

/-- The frame `FF FF 00 FF FF` and seven bits of its closing flag received (42_framer_rx.md R274, R283). -/
def holdingFisu (st : LinkState) : State :=
  { inState st with
    rx := { RxState.reset with
      sr := 0xFC, inFrame := true, nbits := 47
      bits := frameBits [0xFF, 0xFF, 0x00, 0xFF, 0xFF] ++ [false, true, true, true, true, true, true] } }

/-- R285: the frame `FF FF 00 FF FF` raises CORRECT_SU, then FISU_RX; in ALIGNED_READY the link comes up (R191). -/
theorem test_rx_fisu : view (fun t => (t.state, t.indOut, t.monitorGood)) (exec (.rxBit false)
    (holdingFisu .alignedReady)) = some (.inService, [.inService], 1) := by decide +kernel

/-! ### Witnesses: for every statement with hypotheses, a state and operands that meet them -/

theorem test_witness_EncodeOfDecode : ∃ (c : Command) (i : Instr), c.wf = true ∧ decode c = .ok i :=
  ⟨⟨0x4011, ⟨127, true, 0, true, 0x83, [0xAA, 0xBB]⟩, []⟩, _, by decide, rfl⟩

theorem test_witness_StepRunsDecodedOperation :
    (∃ (s : State) (c : Command) (rest : List Command) (i : Instr), s.cmds = c :: rest ∧ decode c = .ok i) ∧
    ∃ s : State, s.cmds = [] :=
  ⟨⟨State.reset.withFetchWord 16 0x4000, .ofWord 0x4000, [], .eventPowerOn, rfl, rfl⟩, State.reset, rfl⟩

theorem test_witness_IllegalWordOnlyAnswersIllegal :
    ∀ w ∈ [0x0001, 0x1002, 0x2800, 0x3001, 0x4020, 0x5100, 0x6000, 0xFFFF],
      ∃ (c : Command) (rest : List Command),
        (State.reset.withFetchWord 16 w).cmds = c :: rest ∧ illegalCommandWord c.word = true :=
  fun w hw => ⟨.ofWord (BitVec.ofNat 16 (w % 2 ^ 16)), [], rfl, by revert w; decide⟩

theorem test_witness_EveryOperationAnswersOnce :
    (∃ (s : State) (c : Command) (rest : List Command), s.cmds = c :: rest) ∧ ∃ s : State, s.cmds = [] :=
  ⟨⟨State.reset.withFetchWord 16 0x2000, .ofWord 0x2000, [], rfl⟩, State.reset, rfl⟩

/-- A link in service: two messages queued, one of them sent, a TX_BIT to run. -/
def serving : State :=
  { inState .inService with
    txLssu := none, txSeq := 0, txQueueSeq := 1
    queue := [⟨0, 1, [1, 2], true⟩, ⟨1, 1, [3, 4], false⟩]
    cmds := [.ofWord 0x2000] }

/-- The premise of the statements over the invariant (StepKeepsInvariant, AtMostOneTimerArmed,
QueueNumbersConsecutive). -/
theorem test_witness_StepKeepsInvariant : serving.Inv ∧ ∃ t, step serving = .next t := by
  refine ⟨⟨rfl, ⟨⟨rfl, trivial⟩, ?_, by decide, by decide, fun _ => .inl rfl⟩, ⟨by decide, by decide, by decide, by decide,
    ?_, ?_, ?_, ?_⟩, rfl, ⟨rfl, rfl⟩, ⟨by decide, by decide, by decide, by decide, by decide, by decide, by decide⟩,
    nofun, ⟨rfl, by decide, by decide, by decide, by decide⟩,
    ⟨rfl, by decide, by decide, by decide, by decide, by decide⟩⟩, _, rfl⟩
  · intro e he
    cases he
    rfl
  all_goals exact ⟨nofun, fun _ => rfl⟩

theorem test_witness_AtMostOneTimerArmed : serving.Inv ∧ ∃ t, step serving = .next t := test_witness_StepKeepsInvariant

/-- QueueNumbersConsecutive: the state after the step has two entries next to each other, and a tail. -/
theorem test_witness_QueueNumbersConsecutive : serving.Inv ∧
    ∃ t, step serving = .next t ∧ (∃ pre e e' post, t.queue = pre ++ e :: e' :: post) ∧ ∃ pre e, t.queue = pre ++ [e] :=
  ⟨test_witness_StepKeepsInvariant.1, _, rfl, ⟨[], ⟨0, 1, [1, 2], true⟩, ⟨1, 1, [3, 4], true⟩, [], rfl⟩,
    [⟨0, 1, [1, 2], true⟩], ⟨1, 1, [3, 4], true⟩, rfl⟩

theorem test_witness_ConfigurationIsConstant : ∃ t, step serving = .next t := ⟨_, rfl⟩

theorem test_witness_IndicationsOnlyAppended :
    ∃ t, step ((inState .aligned).withFetchWord 16 0x400B) = .next t ∧ t.indOut ≠ [] :=
  ⟨_, rfl, by decide⟩

theorem test_witness_PowerOffLeftOnceByPowerOnOrStop :
    (∃ t, step State.reset = .next t ∧ t.state = .powerOff) ∧
    ∃ t, State.reset.state = .powerOff ∧ exec .eventStop State.reset = .next t ∧ t.state ≠ .powerOff :=
  ⟨⟨_, rfl, rfl⟩, _, rfl, rfl, by decide⟩

theorem test_witness_AtMostOneFailureAndOnlyStartLeavesOos :
    (∃ t, exec .eventSiosRx (inState .aligned) = .next t ∧ failuresAfter 0 t = 1) ∧
    ∃ t, exec .eventStart (inState .outOfService) = .next t ∧ t.state ≠ .outOfService :=
  ⟨⟨_, rfl, by decide⟩, _, rfl, by decide⟩

theorem test_witness_ReceiverAndTransmitterIndependent :
    (∃ t, exec (.rxBit true) serving = .next t) ∧ ∃ t, exec .txBit serving = .next t :=
  ⟨⟨_, rfl⟩, _, rfl⟩

theorem test_witness_ReservedOperationsAnswerIllegal : Instr.reservedOpF 0xFFF ∈ [Instr.reservedOp6 0xFFF,
    .reservedOp7 0xFFF, .reservedOp8 0xFFF, .reservedOp9 0xFFF, .reservedOpA 0xFFF, .reservedOpB 0xFFF,
    .reservedOpC 0xFFF, .reservedOpD 0xFFF, .reservedOpE 0xFFF, .reservedOpF 0xFFF] := by decide

theorem test_witness_ReservedEventsAndSibIgnored : Instr.eventSibRx ∈ [Instr.eventReserved7, .eventReserved14,
    .eventReserved15, .eventReserved27, .eventReserved28, .eventReserved29, .eventReserved30, .eventReserved31,
    .eventSibRx] := by decide

theorem test_witness_BadEventsReachTheThresholds :
    Instr.eventOctetCountErr ∈ [Instr.eventBadFrame, .eventOctetCountErr] := by decide

theorem test_witness_SixteenBadFramesFailTheLink : serving.state.inServiceGroup = true ∧
    serving.ignoreMonitor = false ∧ serving.monitorErrors = 0 := ⟨rfl, rfl, rfl⟩

theorem test_witness_TickCountsArmedTimersDown : ∃ s : State, s.t2.armed = true ∧
    ∀ n, (getTimer n s).armed = true → 2 ≤ (getTimer n s).count :=
  ⟨{ inState .notAligned with t2 := ⟨true, 2⟩ }, rfl, by intro n; cases n <;> decide⟩

theorem test_witness_ExpiryActsAsTheTimeoutEvent : ∀ n : TimerId, ∃ s : State,
    getTimer n s = ⟨true, 1⟩ ∧ ∀ m, m ≠ n → (getTimer m s).armed = false := by
  intro n
  refine ⟨setTimer n ⟨true, 1⟩ (inState .proving), ?_, ?_⟩
  · cases n <;> rfl
  · intro m h
    cases n <;> cases m <;> first | rfl | exact absurd rfl h

theorem test_witness_TxBitSendsFlags :
    ((inState .powerOff).tx.phase = .flag ∧ (inState .powerOff).tx.flagIdx = 0 ∧
      (inState .powerOff).state = .powerOff) ∧
    ∃ s : State, s.tx.phase = .flag ∧ s.tx.flagIdx = 7 ∧ s.tx.haveFrame = true :=
  ⟨⟨rfl, rfl, rfl⟩, { inState .inService with tx := { TxState.reset with flagIdx := 7, haveFrame := true } },
    rfl, rfl, rfl⟩

theorem test_witness_TxBitBuildsLssu : (inState .outOfService).tx.phase = .flag ∧
    (inState .outOfService).tx.flagIdx = 0 ∧ (inState .outOfService).state ≠ .powerOff ∧
    (inState .outOfService).txLssu = some 3 := by decide

/-- TxBitBuildsFisu: nothing queued, and 128 messages queued. -/
theorem test_witness_TxBitBuildsFisu :
    (∃ s : State, s.tx.phase = .flag ∧ s.tx.flagIdx = 0 ∧ s.state ≠ .powerOff ∧ s.txLssu = none ∧
      ∀ e ∈ s.queue, e.seq ≠ s.txSeq + 1) ∧
    ∃ s : State, s.tx.phase = .flag ∧ s.tx.flagIdx = 0 ∧ s.state ≠ .powerOff ∧ s.txLssu = none ∧
      128 ≤ s.queue.length :=
  ⟨⟨{ inState .inService with txLssu := none }, by decide⟩,
    { inState .inService with txLssu := none, queue := List.replicate 128 ⟨0, 1, [1, 2], false⟩ },
    rfl, rfl, by decide, rfl, by simp⟩

theorem test_witness_TxBitBuildsMsu : ∃ (pre post : List Entry) (e : Entry),
    serving.tx.phase = .flag ∧ serving.tx.flagIdx = 0 ∧ serving.state ≠ .powerOff ∧ serving.txLssu = none ∧
    serving.queue = pre ++ e :: post ∧ serving.queue.length < 128 ∧ (∀ x ∈ pre, x.seq ≠ serving.txSeq + 1) ∧
    e.seq = serving.txSeq + 1 :=
  ⟨[⟨0, 1, [1, 2], true⟩], [], ⟨1, 1, [3, 4], false⟩, by decide⟩

/-- A transmitter in the DATA phase of the frame `FF FF 00 FF FF`. -/
def sending (pos ones : Nat) : State :=
  { inState .inService with tx := ⟨.data, 0, true, [0xFF, 0xFF, 0x00, 0xFF, 0xFF], 5, pos, ones⟩ }

/-- TxBitSendsFrameBit: the first bit, the last bit, a stuffed 0 and a stuffed 0 after the last bit. -/
theorem test_witness_TxBitSendsFrameBit : ∀ p ∈ [(0, 0), (39, 4), (5, 5), (40, 5)],
    (sending p.1 p.2).tx.phase = .data ∧
      ((sending p.1 p.2).tx.pos < 8 * (sending p.1 p.2).tx.buf.length ∨ (sending p.1 p.2).tx.ones = 5) := by decide

theorem test_witness_DataPhaseSendsStuffedFrame : (sending 0 0).tx.phase = .data ∧ (sending 0 0).tx.pos = 0 ∧
    (sending 0 0).tx.ones = 0 ∧ (sending 0 0).tx.len = (sending 0 0).tx.buf.length ∧ (sending 0 0).tx.buf ≠ [] := by
  decide

/-- A receiver with a given shift register, frame flag and store size, and a given octet count when counting. -/
def receiving (sr : Byte) (inFrame : Bool) (nbits : Nat) (oc : Option Nat) : State :=
  { inState .inService with
    rx := { sr := sr, inFrame := inFrame, nbits := nbits, bits := List.replicate nbits false
            ocActive := oc.isSome, ocBits := oc.getD 0, flagRun := 0 } }

/-- RxBitBetweenFlags: an abort while counting one bit short of the window, a stuffed 0, a bit while hunting, and a
bit that fills the store. -/
theorem test_witness_RxBitBetweenFlags :
    (∀ p ∈ [(true, receiving 0xFC true 6 (some 126)), (false, receiving 0xF8 true 6 none),
        (true, receiving 0x01 false 0 none), (true, receiving 0x01 true 2230 none)],
      let sr : Byte := BitVec.ofBool p.1 ++ p.2.rx.sr.extractLsb' 1 7
      ¬(p.2.rx.ocActive = true ∧ p.2.rx.ocBits = 127) ∧ sr ≠ 0x7E) ∧
    (BitVec.ofBool true ++ (0xFC : Byte).extractLsb' 1 7 : Byte) = 0xFE ∧
    (BitVec.ofBool false ++ (0xF8 : Byte).extractLsb' 1 7 : Byte) &&& 0xFC = 0x7C ∧
    (BitVec.ofBool true ++ (0x01 : Byte).extractLsb' 1 7 : Byte) = 0x80 ∧
    2230 ≠ 8 * (receiving 0x01 true 2230 none).params.rxMaxBytes + 7 := by decide

theorem test_witness_RxTooLongFrameIsBad :
    let s := receiving 0x01 true 2231 none
    let sr : Byte := BitVec.ofBool true ++ s.rx.sr.extractLsb' 1 7
    ¬(s.rx.ocActive = true ∧ s.rx.ocBits = 127) ∧ sr ≠ 0x7E ∧ sr ≠ 0xFE ∧ sr &&& 0xFC ≠ 0x7C ∧ s.rx.inFrame = true ∧
      s.rx.nbits = 8 * s.params.rxMaxBytes + 7 := by decide

/-- RxOctetCountErrorAt128: at the 128th bit an abort, a stuffed 0, a bit while hunting and a stored bit. -/
theorem test_witness_RxOctetCountErrorAt128 :
    (∀ p ∈ [(true, receiving 0xFC true 6 (some 127)), (false, receiving 0xF8 true 6 (some 127)),
        (true, receiving 0x01 false 0 (some 127)), (true, receiving 0x01 true 3 (some 127))],
      p.2.rx.ocActive = true ∧ p.2.rx.ocBits = 127) ∧
    (BitVec.ofBool true ++ (0xFC : Byte).extractLsb' 1 7 : Byte) = 0xFE ∧
    (BitVec.ofBool false ++ (0xF8 : Byte).extractLsb' 1 7 : Byte) = 0x7C ∧
    (BitVec.ofBool true ++ (0x01 : Byte).extractLsb' 1 7 : Byte) = 0x80 := by decide

/-- RxFlagOpensFrame: a flag while hunting; an empty frame with no limit; the empty frame at the limit. -/
theorem test_witness_RxFlagOpensFrame :
    (completesFlag false (receiving 0xFC false 0 none) ∧ (receiving 0xFC false 0 none).rx.inFrame = false) ∧
    (completesFlag false (receiving 0xFC true 7 (some 126)) ∧ (receiving 0xFC true 7 (some 126)).rx.inFrame = true ∧
      (receiving 0xFC true 7 (some 126)).rx.nbits ≤ 7 ∧
      (receiving 0xFC true 7 (some 126)).params.flagLimit = 0) ∧
    ∃ s : State, completesFlag false s ∧ s.rx.inFrame = true ∧ s.rx.nbits ≤ 7 ∧ s.params.flagLimit ≠ 0 ∧
      s.rx.flagRun + 1 = s.params.flagLimit :=
  ⟨⟨⟨rfl, by decide⟩, rfl⟩, ⟨⟨rfl, by decide⟩, rfl, by decide, rfl⟩,
    { receiving 0xFC true 7 none with params := { testParams with flagLimit := 1 } },
    ⟨rfl, by decide⟩, rfl, by decide, by decide, rfl⟩

/-- A receiver that holds the bits of `f` and the first seven bits of its closing flag. -/
def holding (f : List Byte) : State :=
  { inState .inService with
    rx := { RxState.reset with
      sr := 0xFC, inFrame := true, bits := frameBits f ++ [false, true, true, true, true, true, true]
      nbits := (frameBits f ++ [false, true, true, true, true, true, true]).length } }

/-- RxBadFrameRaisesOneBadFrame: one bit of a frame stored; a frame with a wrong CRC (R283: "`FF FF 00 FF FE` raises
BAD_FRAME"). -/
theorem test_witness_RxBadFrameRaisesOneBadFrame :
    (completesFlag false (receiving 0xFC true 8 none) ∧ (receiving 0xFC true 8 none).rx.inFrame = true ∧
      8 ≤ (receiving 0xFC true 8 none).rx.nbits ∧ ((receiving 0xFC true 8 none).rx.nbits - 7) % 8 ≠ 0) ∧
    (completesFlag false (holding [0xFF, 0xFF, 0x00, 0xFF, 0xFE]) ∧
      holdsFrame (holding [0xFF, 0xFF, 0x00, 0xFF, 0xFE]) [0xFF, 0xFF, 0x00, 0xFF, 0xFE] ∧
      8 ≤ (holding [0xFF, 0xFF, 0x00, 0xFF, 0xFE]).rx.nbits ∧ ¬passesChecks .x25 [0xFF, 0xFF, 0x00, 0xFF, 0xFE]) :=
  ⟨⟨⟨rfl, by decide⟩, rfl, by decide, by decide⟩, ⟨rfl, by decide⟩, ⟨rfl, rfl, rfl⟩, by decide,
    by unfold passesChecks; decide +kernel⟩

/-- RxGoodFrameRaisesItsEvents: a FISU, a 1-byte and a 2-byte LSSU, an MSU of 3 bytes. -/
theorem test_witness_RxGoodFrameRaisesItsEvents : ∀ body ∈ ([[0xFF, 0xFF, 0x00], [0xFF, 0xFF, 0x01, 0x04],
      [0xFF, 0xFF, 0x02, 0x0C, 0x55], [0xFF, 0x80, 0x03, 0xCD, 0x01, 0x02]] : List (List Byte)),
    completesFlag false (holding (body ++ crcBytes .x25 body)) ∧
      holdsFrame (holding (body ++ crcBytes .x25 body)) (body ++ crcBytes .x25 body) ∧ passesChecks .x25 (body ++ crcBytes .x25 body) := by
  intro body h
  refine ⟨⟨(by decide : (BitVec.ofBool false ++ (0xFC : Byte).extractLsb' 1 7 : Byte) = 0x7E), nofun⟩,
    ⟨rfl, rfl, rfl⟩, ?_⟩
  revert body
  unfold passesChecks
  decide +kernel

/-- ReceiverRecoversStuffedFrame: a frame of the greatest length RX_MAX_BYTES allows. -/
theorem test_witness_ReceiverRecoversStuffedFrame : ∃ (s : State) (f : List Byte),
    s.rx.sr = 0x7E ∧ s.rx.inFrame = true ∧ s.rx.bits = [] ∧ s.rx.nbits = 0 ∧ s.rx.ocActive = false ∧
      f.length = s.params.rxMaxBytes :=
  ⟨receiving 0x7E true 0 none, List.replicate 278 0xFF, rfl, rfl, rfl, rfl, rfl,
    List.length_replicate⟩

/-- SelectTakesNextInSequence: no entry due, 128 entries, and an entry due. -/
theorem test_witness_SelectTakesNextInSequence :
    (∀ e ∈ (inState .inService).queue, e.seq ≠ (inState .inService).txSeq + 1) ∧
    (∃ s : State, 128 ≤ s.queue.length) ∧
    ∃ (pre post : List Entry) (e : Entry), serving.queue = pre ++ e :: post ∧ serving.queue.length < 128 ∧
      (∀ x ∈ pre, x.seq ≠ serving.txSeq + 1) ∧ e.seq = serving.txSeq + 1 :=
  ⟨by decide, ⟨{ serving with queue := List.replicate 128 ⟨0, 1, [1, 2], false⟩ }, by simp⟩,
    [⟨0, 1, [1, 2], true⟩], [], ⟨1, 1, [3, 4], false⟩, by decide⟩

/-- AckFreesThroughMatch: number 0 is reached; number 1 is queued and not sent. -/
theorem test_witness_AckFreesThroughMatch :
    (∃ (pre post : List Entry) (e : Entry), serving.queue = pre ++ e :: post ∧
      (∀ x ∈ pre, x.transmitted = true ∧ x.seq ≠ 0) ∧ e.transmitted = true ∧ e.seq = 0) ∧
    ∀ (pre post : List Entry) (e : Entry), serving.queue = pre ++ e :: post → e.seq = 1 →
      ∃ x ∈ pre ++ [e], x.transmitted = false := by
  refine ⟨⟨[], [⟨1, 1, [3, 4], false⟩], ⟨0, 1, [1, 2], true⟩, by decide⟩, ?_⟩
  intro pre post e h he
  match pre, h with
  | [], h => cases h; cases he
  | [_], h => cases h; exact ⟨⟨1, 1, [3, 4], false⟩, by simp, rfl⟩
  | _ :: _ :: [], h => cases h
  | _ :: _ :: _ :: _, h => cases h

theorem test_witness_AckTwiceIsAckOnce : consecutive serving.queue ∧ serving.queue.length < 128 :=
  ⟨⟨rfl, trivial⟩, by decide⟩

/-- NackForcesRetransmission: `bsn = 127` asks for number 0, which was sent; `bsn = 0` for number 1, which was not. -/
theorem test_witness_NackForcesRetransmission :
    (∃ e ∈ serving.queue, e.transmitted = true ∧ e.seq = (127 : Seq) + 1) ∧ serving.queue.length < 128 ∧
    ∀ e ∈ serving.queue, e.transmitted = true → e.seq ≠ (0 : Seq) + 1 := by decide

/-- MsuAcceptance: the expected number, a gap, a repeat, and FIB not equal to BIB (R326's example). -/
theorem test_witness_MsuAcceptance :
    let s := inState .inService
    (true = s.bib ∧ (0 : Seq) = s.rxSeq + 1) ∧ (true = s.bib ∧ (2 : Seq) ≠ s.rxSeq + 1 ∧ (2 : Seq) ≠ s.rxSeq) ∧
      (true = s.bib ∧ (127 : Seq) = s.rxSeq) ∧ false ≠ s.bib := by decide

end Sys2Proof.Tests
end

section
/-! SUPPORT. The step by its equations and its inversion: what one step runs, what an operation can do to the state, and
that none touches the configuration (00_scope.md R2, R6). -/

namespace Sys2Proof.Machine

/-! ### What a step runs -/

/-- With nothing presented a step runs NOP (30_encoding.md R102; log entry 4). -/
theorem step_of_no_command {s : State} (h : s.cmds = []) : step s = exec .nop s := by
  simp only [step, fetch_nil h]

/-- A step runs the operation the next command decodes to (20_memory.md R80). -/
theorem step_of_decode_ok {s : State} {c : Command} {rest : List Command} {i : Instr} (h : s.cmds = c :: rest)
    (hd : decode c = .ok i) : step s = exec i { s with cmds := rest } := by
  simp only [step, fetch_cons h, hd]

/-- A step whose next command is no operation answers ILLEGAL (30_encoding.md R103). -/
theorem step_of_decode_error {s : State} {c : Command} {rest : List Command} {e : DecodeError} (h : s.cmds = c :: rest)
    (hd : decode c = .error e) : step s = illegalWord { s with cmds := rest } := by
  simp only [step, fetch_cons h, hd]

/-! ### What an operation can do -/

/-- Everything an operation can do to the state before its answer is recorded (30_encoding.md R101). -/
inductive OpEffect (s : State) : State → Prop
  | unchanged : OpEffect s s
  | received (b : Bool) : OpEffect s (receiveBit b s)
  | sent : OpEffect s (sendBit s).2
  | ticked : OpEffect s (tickTimers s)
  | raised (ev : Event) (a : EventArg) : OpEffect s (raise ev a s)
  | enqueued (h : s.state = .inService) (h' : s.queue.length < s.params.queueDepth) (sio : Byte) (data : List Byte)
      (h'' : 2 ≤ data.length) : OpEffect s (appendEntry sio (data.take s.params.txMaxData) s)

/-- An EVENT operation raises its event and answers. -/
theorem eventOp_effect (ev : Event) (a : EventArg) (s : State) :
    ∃ r u, OpEffect s u ∧ eventOp ev a s = .next (respond r u) :=
  ⟨_, _, .raised ev a, eventOp_eq ev a s⟩

/-- Every operation completes: it has one of the effects, and answers (60_exceptions.md R400). -/
theorem exec_effect (i : Instr) (s : State) : ∃ r u, OpEffect s u ∧ exec i s = .next (respond r u) := by
  cases i with
  | nop => exact ⟨.ok, s, .unchanged, rfl⟩
  | rxBit b => exact ⟨.ok, _, .received b, rfl⟩
  | txBit => exact ⟨_, _, .sent, rfl⟩
  | timerTick => exact ⟨.ok, _, .ticked, rfl⟩
  | enqueue sio data =>
    rcases execEnqueue_cases sio data s with ⟨c, h⟩ | ⟨hst, hlen, hq, c, h⟩
    · exact ⟨.enq c, s, .unchanged, h⟩
    · exact ⟨.enq c, _, .enqueued hst hq sio data hlen, h⟩
  | reservedOp6 | reservedOp7 | reservedOp8 | reservedOp9 | reservedOpA | reservedOpB | reservedOpC | reservedOpD
  | reservedOpE | reservedOpF => exact ⟨.illegal, s, .unchanged, rfl⟩
  | _ => exact eventOp_effect _ _ s

/-- The inversion lemma of the step: it takes commands from the stream, has the effect of one operation and records one
answer. -/
theorem step_effect (s : State) : ∃ cs r u, OpEffect { s with cmds := cs } u ∧ step s = .next (respond r u) := by
  cases h : s.cmds with
  | nil =>
    obtain ⟨r, u, hu, he⟩ := exec_effect .nop s
    exact ⟨s.cmds, r, u, hu, (step_of_no_command h).trans he⟩
  | cons c rest =>
    cases hd : decode c with
    | ok i =>
      obtain ⟨r, u, hu, he⟩ := exec_effect i { s with cmds := rest }
      exact ⟨rest, r, u, hu, (step_of_decode_ok h hd).trans he⟩
    | error e => exact ⟨rest, .illegal, _, .unchanged, step_of_decode_error h hd⟩

/-! ### The configuration -/

/-- The two states have the same configuration inputs and parameters (10_state.md R43; log entry 5). -/
structure SameConfig (s t : State) : Prop where
  rate64k : t.rate64k = s.rate64k
  ignoreMonitor : t.ignoreMonitor = s.ignoreMonitor
  params : t.params = s.params

theorem SameConfig.refl (s : State) : SameConfig s s := ⟨rfl, rfl, rfl⟩

theorem SameConfig.trans {s t u : State} (h : SameConfig s t) (h' : SameConfig t u) : SameConfig s u :=
  ⟨h'.rate64k.trans h.rate64k, h'.ignoreMonitor.trans h.ignoreMonitor, h'.params.trans h.params⟩

theorem EventFrame.sameConfig {s t : State} (h : EventFrame s t) : SameConfig s t :=
  ⟨h.rate64k, h.ignoreMonitor, h.params⟩

theorem chooseBody_sameConfig (s : State) : SameConfig s (chooseBody s).2 := by
  rcases chooseBody_cases s with ⟨st, -, h⟩ | ⟨-, h, -⟩ | ⟨-, pre, e, post, -, -, -, -, h⟩ <;> rw [h] <;>
    exact ⟨rfl, rfl, rfl⟩

theorem buildFrame_sameConfig (s : State) : SameConfig s (buildFrame s).2 := by
  by_cases hoff : s.state = .powerOff
  · rw [buildFrame_powerOff hoff]
    exact .refl s
  · have hflip : SameConfig s (flipBib s) := by rw [flipBib_eq]; exact ⟨rfl, rfl, rfl⟩
    have hbody := hflip.trans (chooseBody_sameConfig (flipBib s))
    rw [buildFrame, if_neg hoff]
    exact hbody.trans ⟨rfl, rfl, rfl⟩

theorem startFlag_sameConfig (s : State) : SameConfig s (startFlag s) := by
  have hbuild := buildFrame_sameConfig s
  unfold startFlag
  split
  · exact hbuild.trans ⟨rfl, rfl, rfl⟩
  · exact .refl s

theorem sendBit_sameConfig (s : State) : SameConfig s (sendBit s).2 := by
  have hstart := startFlag_sameConfig s
  unfold sendBit
  split
  · exact hstart.trans ⟨rfl, rfl, rfl⟩
  · exact ⟨rfl, rfl, rfl⟩

theorem receiveBit_sameConfig (b : Bool) (s : State) : SameConfig s (receiveBit b s) :=
  receiveBit_induction (P := SameConfig s) (fun _ _ h => h.trans ⟨rfl, rfl, rfl⟩)
    (fun ev a u h => h.trans (raise_frame ev a u).sameConfig) b (.refl s)

/-- No operation writes the configuration or the parameters. -/
theorem OpEffect.sameConfig {s t : State} (h : OpEffect s t) : SameConfig s t := by
  cases h with
  | unchanged => exact .refl s
  | received b => exact receiveBit_sameConfig b s
  | sent => exact sendBit_sameConfig s
  | ticked => exact (tickTimers_frame s).sameConfig
  | raised ev a => exact (raise_frame ev a s).sameConfig
  | enqueued => exact ⟨rfl, rfl, rfl⟩

/-- A step keeps the configuration and the parameters (00_scope.md R6). -/
theorem step_sameConfig {s t : State} (h : step s = .next t) : SameConfig s t := by
  obtain ⟨cs, r, u, hu, he⟩ := step_effect s
  obtain rfl : respond r u = t := Host.Outcome.next.inj (he.symm.trans h)
  have htaken : SameConfig s { s with cmds := cs } := ⟨rfl, rfl, rfl⟩
  exact (htaken.trans hu.sameConfig).trans ⟨rfl, rfl, rfl⟩

/-! ### The statements -/

/-- Settles O4, by the equations of the step. -/
theorem stepRunsDecodedOperation : Obligations.StepRunsDecodedOperation :=
  ⟨fun _ _ _ _ => step_of_decode_ok, fun _ => step_of_no_command⟩

/-- Settles O12, by the inversion of the step into an operation's effect. -/
theorem configurationIsConstant : Obligations.ConfigurationIsConstant := by
  intro s t h
  obtain ⟨hrate, hmonitor, hparams⟩ := step_sameConfig h
  exact ⟨hrate, hmonitor, hparams⟩

end Sys2Proof.Machine
end

section
/-! SUPPORT. The invariant of the state record by parts: the queue, the timers and the counters, each with the changes it
survives; then the link part of it, which the framer does not enter (10_state.md section 3). -/

namespace Sys2Proof.Machine

/-! ### The queue (10_state.md R38, R39, R45) -/

/-- Consecutive numbers, as a chain on the numbers alone. -/
theorem consecutive_iff_isChain (q : List Entry) :
    consecutive q ↔ (q.map Entry.seq).IsChain fun a b => b = a + 1 := by
  induction q with
  | nil => simp [consecutive]
  | cons e q ih =>
    cases q with
    | nil => simp [consecutive]
    | cons e' q => simpa [consecutive] using fun _ => ih

/-- Neighbours in a queue with consecutive numbers (R45). -/
theorem consecutive.next_seq {pre post : List Entry} {e e' : Entry} (h : consecutive (pre ++ e :: e' :: post)) :
    e'.seq = e.seq + 1 := by
  have hchain := (consecutive_iff_isChain _).1 h
  rw [List.map_append] at hchain
  exact (List.isChain_cons_cons.1 hchain.right_of_append).1

theorem consecutive.right_of_append {pre q : List Entry} (h : consecutive (pre ++ q)) : consecutive q := by
  rw [consecutive_iff_isChain, List.map_append] at h
  exact (consecutive_iff_isChain q).2 h.right_of_append

/-- A new last entry keeps the numbers consecutive when it has the number after the tail's. -/
theorem consecutive.concat {q : List Entry} {e : Entry} (h : consecutive q)
    (ht : ∀ x ∈ q.getLast?, e.seq = x.seq + 1) : consecutive (q ++ [e]) := by
  rw [consecutive_iff_isChain] at h ⊢
  rw [List.map_append, List.isChain_append]
  exact ⟨h, by simp, by simpa using ht⟩

theorem QueueInv.of_empty {s : State} (h : s.queue = []) : QueueInv s where
  consecutive := by simp [h, Machine.consecutive]
  tail := by simp [h]
  depth := by simp [h]
  sizes := by simp [h]
  states := by simp [h]

/-- Outside IN_SERVICE and PROCESSOR_OUTAGE the queue is empty (43_sequencing.md R311). -/
theorem QueueInv.empty {s : State} (h : QueueInv s) (hs : ¬(s.state = .inService ∨ s.state = .processorOutage)) :
    s.queue = [] := by
  by_contra hne
  exact hs (h.states hne)

/-- The queue's invariant reads the numbers and the data of the entries, not their `transmitted` marks. -/
theorem QueueInv.of_map {s t : State} (h : QueueInv s) (hseq : t.queue.map Entry.seq = s.queue.map Entry.seq)
    (hdata : t.queue.map Entry.data = s.queue.map Entry.data) (hlast : t.txQueueSeq = s.txQueueSeq)
    (hparams : t.params = s.params)
    (hstate : s.state = .inService ∨ s.state = .processorOutage → t.state = .inService ∨ t.state = .processorOutage) :
    QueueInv t where
  consecutive := by
    rw [consecutive_iff_isChain, hseq, ← consecutive_iff_isChain]
    exact h.consecutive
  tail := by
    have htail : ∀ n ∈ (s.queue.map Entry.seq).getLast?, n = s.txQueueSeq := by
      simpa [List.getLast?_map] using h.tail
    rw [← hseq, ← hlast] at htail
    simpa [List.getLast?_map] using htail
  depth := by
    have hlength : t.queue.length = s.queue.length := by simpa using congrArg List.length hseq
    rw [hlength, hparams]
    exact h.depth
  sizes := by
    intro e he
    have hmem : e.data ∈ s.queue.map Entry.data := hdata ▸ List.mem_map_of_mem he
    obtain ⟨x, hx, hxe⟩ := List.mem_map.1 hmem
    rw [← hxe, hparams]
    exact h.sizes x hx
  states := by
    intro hne
    refine hstate (h.states fun hs => hne ?_)
    simpa [hs] using hseq

/-- A suffix of the queue, with the other fields kept, keeps its invariant. -/
theorem QueueInv.of_suffix {s : State} (h : QueueInv s) {pre q : List Entry} (hq : s.queue = pre ++ q) :
    QueueInv { s with queue := q } where
  consecutive := by
    have hall := h.consecutive
    rw [hq] at hall
    exact hall.right_of_append
  tail := by
    intro e he
    refine h.tail e ?_
    rw [hq, List.getLast?_append, he]
    rfl
  depth := by
    have hdepth := h.depth
    rw [hq, List.length_append] at hdepth
    exact le_trans (Nat.le_add_left _ _) hdepth
  sizes := fun e he => h.sizes e (by rw [hq]; exact List.mem_append_right pre he)
  states := fun hne => h.states (by rw [hq]; exact List.append_ne_nil_of_right_ne_nil pre hne)

/-- Marking an entry transmitted keeps the queue's invariant (43_sequencing.md R316). -/
theorem QueueInv.of_marked {s : State} (h : QueueInv s) {pre post : List Entry} {e : Entry}
    (hq : s.queue = pre ++ e :: post) :
    QueueInv { s with queue := pre ++ { e with transmitted := true } :: post } :=
  h.of_map (by simp [hq]) (by simp [hq]) rfl rfl id

/-- An appended entry of a legal length keeps the queue's invariant while there is room (43_sequencing.md R312). -/
theorem QueueInv.appendEntry {s : State} (h : QueueInv s) (hs : s.state = .inService)
    (hroom : s.queue.length < s.params.queueDepth) (sio : Byte) {data : List Byte} (hshort : 2 ≤ data.length)
    (hlong : data.length ≤ s.params.txMaxData) : QueueInv (appendEntry sio data s) where
  consecutive := h.consecutive.concat fun x hx => by rw [h.tail x hx]
  tail := by simp [Machine.appendEntry]
  depth := by simpa [Machine.appendEntry] using hroom
  sizes := by
    intro e he
    rcases List.mem_append.1 he with he | he
    · exact h.sizes e he
    · obtain rfl := List.mem_singleton.1 he
      exact ⟨hshort, hlong⟩
  states := fun _ => .inl hs

/-! ### The timers (10_state.md R40, R47) -/

/-- The timer that runs in a state (45_timers.md R374). -/
def LinkState.timer : LinkState → Option TimerId
  | .notAligned => some .t2
  | .aligned => some .t3
  | .proving => some .t4
  | .alignedReady | .alignedNotReady => some .t1
  | .powerOff | .outOfService | .inService | .processorOutage => none

/-- The longest count a timer can hold: T4's does not depend on the emergency flags (45_timers.md R373, R375). -/
def longestDuration (s : State) : TimerId → Nat
  | .t4 => max (perRate s s.params.t4nDur) (perRate s s.params.t4eDur)
  | n => timerDuration s n

@[simp] theorem LinkState.timer_eq_t1 (st : LinkState) :
    st.timer = some .t1 ↔ st = .alignedReady ∨ st = .alignedNotReady := by cases st <;> simp [LinkState.timer]
@[simp] theorem LinkState.timer_eq_t2 (st : LinkState) : st.timer = some .t2 ↔ st = .notAligned := by
  cases st <;> simp [LinkState.timer]
@[simp] theorem LinkState.timer_eq_t3 (st : LinkState) : st.timer = some .t3 ↔ st = .aligned := by
  cases st <;> simp [LinkState.timer]
@[simp] theorem LinkState.timer_eq_t4 (st : LinkState) : st.timer = some .t4 ↔ st = .proving := by
  cases st <;> simp [LinkState.timer]

/-- The timers' invariant, said of timer `n`: it is armed exactly when it is the timer of the state. -/
theorem timerInv_iff (s : State) :
    TimerInv s ↔ ∀ n, ((getTimer n s).armed = true ↔ s.state.timer = some n) ∧
      (getTimer n s).inRange (longestDuration s n) := by
  constructor
  · intro h n
    cases n with
    | t1 => exact ⟨h.t1State.trans (LinkState.timer_eq_t1 _).symm, h.t1Range⟩
    | t2 => exact ⟨h.t2State.trans (LinkState.timer_eq_t2 _).symm, h.t2Range⟩
    | t3 => exact ⟨h.t3State.trans (LinkState.timer_eq_t3 _).symm, h.t3Range⟩
    | t4 => exact ⟨h.t4State.trans (LinkState.timer_eq_t4 _).symm, h.t4Range⟩
  · intro h
    exact
      { t1State := (h .t1).1.trans (LinkState.timer_eq_t1 _)
        t2State := (h .t2).1.trans (LinkState.timer_eq_t2 _)
        t3State := (h .t3).1.trans (LinkState.timer_eq_t3 _)
        t4State := (h .t4).1.trans (LinkState.timer_eq_t4 _)
        t1Range := (h .t1).2
        t2Range := (h .t2).2
        t3Range := (h .t3).2
        t4Range := (h .t4).2 }

theorem TimerInv.armed_iff {s : State} (h : TimerInv s) (n : TimerId) :
    (getTimer n s).armed = true ↔ s.state.timer = some n := ((timerInv_iff s).1 h n).1

theorem TimerInv.inRange {s : State} (h : TimerInv s) (n : TimerId) : (getTimer n s).inRange (longestDuration s n) :=
  ((timerInv_iff s).1 h n).2

/-- The timers of other states are off, with count 0 (R40). -/
theorem TimerInv.getTimer_off {s : State} (h : TimerInv s) {n : TimerId} (hn : s.state.timer ≠ some n) :
    getTimer n s = Timer.off := by
  have harmed : (getTimer n s).armed = false := by simpa using mt (h.armed_iff n).1 hn
  have hcount := (h.inRange n).2 harmed
  rcases hg : getTimer n s with ⟨armed, count⟩
  simp_all [Timer.off]

/-- The timer of the state is armed, with a count in its range (R40). -/
theorem TimerInv.count_of_timer {s : State} (h : TimerInv s) {n : TimerId} (hn : s.state.timer = some n) :
    1 ≤ (getTimer n s).count ∧ (getTimer n s).count ≤ longestDuration s n :=
  (h.inRange n).1 ((h.armed_iff n).2 hn)

/-- Every duration is at least 1 (00_scope.md R5). -/
theorem timerDuration_pos {s : State} (h : s.params.wf = true) (n : TimerId) : 1 ≤ timerDuration s n := by
  simp only [Config.Params.wf, Config.PerRate.wf, Bool.and_eq_true, decide_eq_true_eq] at h
  cases n <;> simp only [timerDuration, perRate] <;> split_ifs <;> omega

theorem timerDuration_le_longest (s : State) (n : TimerId) : timerDuration s n ≤ longestDuration s n := by
  cases n with
  | t4 => simp only [timerDuration, longestDuration]; split <;> omega
  | _ => exact le_rfl

/-- A timer just armed is in range (45_timers.md R371). -/
theorem inRange_of_armed {s : State} (h : s.params.wf = true) (n : TimerId) :
    Timer.inRange ⟨true, timerDuration s n⟩ (longestDuration s n) :=
  ⟨fun _ => ⟨timerDuration_pos h n, timerDuration_le_longest s n⟩, nofun⟩

theorem inRange_off (longest : Nat) : Timer.off.inRange longest := ⟨nofun, fun _ => rfl⟩

/-- On entry to a state: its own timer is started from the full duration, the others are off (R374). -/
theorem timerInv_of_fresh {s : State} (hwf : s.params.wf = true)
    (h : ∀ n, getTimer n s = if s.state.timer = some n then ⟨true, timerDuration s n⟩ else Timer.off) : TimerInv s := by
  rw [timerInv_iff]
  intro n
  rw [h n]
  split
  · exact ⟨by simp [*], inRange_of_armed hwf n⟩
  · exact ⟨by simp [*, Timer.off], inRange_off _⟩

/-- A move to a state whose timer it starts, with the timer of the state left cancelled (R47, R374). -/
theorem TimerInv.moved {s t : State} (h : TimerInv s) (hwf : t.params.wf = true) {left : TimerId}
    (hleft : ∀ n, s.state.timer = some n → n = left)
    (ht : ∀ n, getTimer n t =
      if t.state.timer = some n then ⟨true, timerDuration t n⟩
      else if n = left then Timer.off else getTimer n s := by intro n; cases n <;> rfl) : TimerInv t := by
  refine timerInv_of_fresh hwf fun n => ?_
  rw [ht n]
  split
  · rfl
  · split
    · rfl
    · next hne => exact h.getTimer_off (mt (hleft n) hne)

/-- A change that keeps the timers and goes to a state of the same timer. -/
theorem TimerInv.of_same {s t : State} (h : TimerInv s) (hstate : t.state.timer = s.state.timer)
    (ht : ∀ n, getTimer n t = getTimer n s := by intro n; cases n <;> rfl) (hparams : t.params = s.params := by rfl)
    (hrate : t.rate64k = s.rate64k := by rfl) : TimerInv t := by
  have hlongest : ∀ n, longestDuration t n = longestDuration s n := fun n => by
    cases n <;> simp [longestDuration, timerDuration, perRate, hparams, hrate]
  rw [timerInv_iff]
  intro n
  rw [ht, hstate, hlongest]
  exact ⟨h.armed_iff n, h.inRange n⟩

/-! ### What a change of state keeps -/

/-- The two states have the same queue, sequence state, counters, parameters and rate class. -/
structure SameTraffic (s t : State) : Prop where
  params : t.params = s.params := by rfl
  rate64k : t.rate64k = s.rate64k := by rfl
  queue : t.queue = s.queue := by rfl
  txQueueSeq : t.txQueueSeq = s.txQueueSeq := by rfl
  txSeq : t.txSeq = s.txSeq := by rfl
  rxSeq : t.rxSeq = s.rxSeq := by rfl
  fib : t.fib = s.fib := by rfl
  bib : t.bib = s.bib := by rfl
  txNack : t.txNack = s.txNack := by rfl
  monitorErrors : t.monitorErrors = s.monitorErrors := by rfl
  monitorGood : t.monitorGood = s.monitorGood := by rfl

/-- The two states have the same proving counters. -/
structure SameProving (s t : State) : Prop where
  provingTry : t.provingTry = s.provingTry := by rfl
  provingErrors : t.provingErrors = s.provingErrors := by rfl
  furtherProving : t.furtherProving = s.furtherProving := by rfl

theorem QueueInv.of_sameTraffic {s t : State} (h : QueueInv s) (same : SameTraffic s t)
    (hstate : s.state = .inService ∨ s.state = .processorOutage → t.state = .inService ∨ t.state = .processorOutage) :
    QueueInv t :=
  h.of_map (by rw [same.queue]) (by rw [same.queue]) same.txQueueSeq same.params hstate

theorem sequenceFits_of_group {s : State} (h : s.state.inServiceGroup = true) : sequenceFits s :=
  fun hout => absurd (h.symm.trans hout) nofun

theorem sequenceFits_of_sameTraffic {s t : State} (h : sequenceFits s) (same : SameTraffic s t)
    (hstate : t.state.inServiceGroup = false → s.state.inServiceGroup = false) : sequenceFits t := by
  intro ht
  rw [same.txSeq, same.rxSeq, same.txQueueSeq, same.fib, same.bib, same.txNack]
  exact h (hstate ht)

/-- The counters survive a change of state that leaves the proving period alone. -/
theorem CounterInv.of_same {s t : State} (h : CounterInv s) (same : SameTraffic s t) (proving : SameProving s t)
    (hgroup : t.state.inServiceGroup = false → s.state.inServiceGroup = false)
    (hleave : s.state = .proving → t.state = .proving) : CounterInv t where
  tries := proving.provingTry ▸ h.tries
  proving := proving.provingErrors ▸ h.proving
  errors := same.monitorErrors ▸ h.errors
  good := same.monitorGood ▸ h.good
  idle := by
    intro ht
    rw [same.monitorErrors, same.monitorGood]
    exact h.idle (hgroup ht)
  beforeProving := by
    intro ht htp
    rw [proving.provingErrors, proving.provingTry]
    refine h.beforeProving (hgroup ht) fun hsp => htp (hleave hsp)
  further := by
    intro hf
    rw [proving.furtherProving] at hf
    exact hleave (h.further hf)

end Sys2Proof.Machine
end

section
/-! SUPPORT. The link part of the invariant, kept by every row of the FSM table, by the monitors and so by every event
(40_fsm.md R143, R252; 44_error_monitor.md). -/

namespace Sys2Proof.Machine

/-- The part of the invariant that the FSM, the sequencing component, the monitors and the timers keep. -/
structure LinkInv (s : State) : Prop where
  params : s.params.wf = true
  queue : QueueInv s
  timers : TimerInv s
  lssu : lssuFits s
  outage : outageFits s
  counters : CounterInv s
  sequence : sequenceFits s

/-- The invariant is its link part and that of the framer in both directions. -/
theorem inv_iff (s : State) : s.Inv ↔ LinkInv s ∧ TxInv s ∧ RxInv s :=
  ⟨fun h => ⟨⟨h.params, h.queue, h.timers, h.lssu, h.outage, h.counters, h.sequence⟩, h.tx, h.rx⟩,
    fun ⟨h, htx, hrx⟩ => ⟨h.params, h.queue, h.timers, h.lssu, h.outage, h.counters, h.sequence, htx, hrx⟩⟩

/-! ### Writes within a state -/

/-- The link part does not read the framer, the indications or the ports. -/
theorem LinkInv.with_ports {s : State} (h : LinkInv s) (tx : TxState) (rx : RxState) (ind : List Indication)
    (cs : List Command) (rs : List Response) :
    LinkInv { s with tx := tx, rx := rx, indOut := ind, cmds := cs, responses := rs } :=
  ⟨h.params, { h.queue with }, { h.timers with }, h.lssu, h.outage, { h.counters with }, h.sequence⟩

theorem LinkInv.indicate {s : State} (h : LinkInv s) (x : Indication) : LinkInv (indicate x s) :=
  h.with_ports s.tx s.rx (s.indOut ++ [x]) s.cmds s.responses

/-- The emergency flag enters only T4's duration, whose longest value does not depend on it (45_timers.md R375). -/
theorem LinkInv.with_localEmergency {s : State} (h : LinkInv s) (b : Bool) : LinkInv { s with localEmergency := b } :=
  ⟨h.params, { h.queue with }, { h.timers with }, h.lssu, h.outage, { h.counters with }, h.sequence⟩

/-- The proving counters may take any value in their range in PROVING (10_state.md R33 to R35). -/
theorem LinkInv.with_proving {s : State} (h : LinkInv s) (hs : s.state = .proving) {tries errors : Nat}
    (htries : tries ≤ 4) (herrors : errors ≤ 3) (further : Bool) :
    LinkInv { s with provingTry := tries, provingErrors := errors, furtherProving := further } :=
  ⟨h.params, { h.queue with }, { h.timers with }, h.lssu, h.outage,
    { h.counters with
      tries := htries
      proving := herrors
      beforeProving := fun _ hne => absurd hs hne
      further := fun _ => hs },
    h.sequence⟩

/-- The monitor counters may take any value in their range in the in-service group (10_state.md R36, R37). -/
theorem LinkInv.with_monitor {s : State} (h : LinkInv s) (hs : s.state.inServiceGroup = true) {errors good : Nat}
    (herrors : errors ≤ 15) (hgood : good ≤ 255) : LinkInv { s with monitorErrors := errors, monitorGood := good } :=
  ⟨h.params, { h.queue with }, { h.timers with }, h.lssu, h.outage,
    { h.counters with
      errors := herrors
      good := hgood
      idle := fun hout => absurd (hs.symm.trans hout) nofun },
    h.sequence⟩

/-- The sequence state is free in the in-service group, as long as the queue fits it (10_state.md R27 to R32). -/
theorem LinkInv.with_sequence {s : State} (h : LinkInv s) (hs : s.state.inServiceGroup = true) {q : List Entry}
    {last : Seq} (hq : QueueInv { s with queue := q, txQueueSeq := last }) (txSeq rxSeq : Seq) (fib bib nack : Bool) :
    LinkInv { s with
      queue := q, txQueueSeq := last, txSeq := txSeq, rxSeq := rxSeq, fib := fib, bib := bib, txNack := nack } :=
  ⟨h.params, { hq with }, { h.timers with }, h.lssu, h.outage, { h.counters with }, sequenceFits_of_group hs⟩

/-! ### Failure and alignment -/

/-- The Stop action meets the link part from any state (40_fsm.md R149). -/
theorem stop_linkInv {s : State} (hwf : s.params.wf = true) : LinkInv (stop s) where
  params := hwf
  queue := .of_empty rfl
  timers := timerInv_of_fresh hwf fun n => by cases n <;> rfl
  lssu := rfl
  outage := rfl
  counters := by constructor <;> simp
  sequence := fun _ => ⟨rfl, rfl, rfl, rfl, rfl, rfl⟩

theorem fail_linkInv {s : State} (hwf : s.params.wf = true) (c : Cause) : LinkInv (fail c s) :=
  (stop_linkInv hwf).indicate _

/-- Row 5 (40_fsm.md R155). -/
theorem startAlignment_linkInv {s : State} (h : LinkInv s) (hs : s.state = .outOfService) :
    LinkInv (startAlignment s) := by
  have same : SameTraffic s (startAlignment s) := {}
  have hremote : s.remoteOutage = false := by simpa [outageFits, hs] using h.outage
  exact
    { params := h.params
      queue := h.queue.of_sameTraffic same (by simp [hs])
      timers := h.timers.moved h.params (left := .t2) (by simp [hs, LinkState.timer])
      lssu := rfl
      outage := hremote
      counters := h.counters.of_same same {} (fun _ => by rw [hs]; rfl) (by simp [hs])
      sequence := sequenceFits_of_sameTraffic h.sequence same fun _ => by rw [hs]; rfl }

theorem alignedLssu_cases (s : State) : alignedLssu s = lssuSIN ∨ alignedLssu s = lssuSIE := by
  unfold alignedLssu
  split
  · exact .inr rfl
  · exact .inl rfl

/-- Rows 6 to 8 (40_fsm.md R160). -/
theorem enterAligned_linkInv {s : State} (h : LinkInv s) (hs : s.state = .notAligned) (st : LssuStatus) :
    LinkInv (enterAligned st s) := by
  have same : SameTraffic s (enterAligned st s) := {}
  have hremote : s.remoteOutage = false := by simpa [outageFits, hs] using h.outage
  exact
    { params := h.params
      queue := h.queue.of_sameTraffic same (by simp [hs])
      timers := h.timers.moved h.params (left := .t2) (by simp [hs, LinkState.timer])
      lssu := by simpa [lssuFits, enterAligned] using alignedLssu_cases _
      outage := hremote
      counters := h.counters.of_same same {} (fun _ => by rw [hs]; rfl) (by simp [hs])
      sequence := sequenceFits_of_sameTraffic h.sequence same fun _ => by rw [hs]; rfl }

/-- Rows 10 and 11: the proving period begins with its counters at 0 (40_fsm.md R165). -/
theorem enterProving_linkInv {s : State} (h : LinkInv s) (hs : s.state = .aligned) (st : LssuStatus) :
    LinkInv (enterProving st s) := by
  have same : SameTraffic s (enterProving st s) := {}
  have hremote : s.remoteOutage = false := by simpa [outageFits, hs] using h.outage
  have hgroup : s.state.inServiceGroup = false := by rw [hs]; rfl
  have hlssu : s.txLssu = some lssuSIN ∨ s.txLssu = some lssuSIE := by simpa [lssuFits, hs] using h.lssu
  exact
    { params := h.params
      queue := h.queue.of_sameTraffic same (by simp [hs])
      timers := h.timers.moved h.params (left := .t3) (by simp [hs, LinkState.timer])
      lssu := hlssu
      outage := hremote
      counters :=
        { tries := Nat.zero_le _
          proving := Nat.zero_le _
          errors := h.counters.errors
          good := h.counters.good
          idle := fun _ => h.counters.idle hgroup
          beforeProving := fun _ hne => absurd rfl hne
          further := fun _ => rfl }
      sequence := sequenceFits_of_sameTraffic h.sequence same fun _ => hgroup }

/-- Row 15: the fifth abort fails, the others start another proving try (40_fsm.md R171). -/
theorem abortProving_cases (s : State) :
    (∃ c u, u.params = s.params ∧ abortProving s = fail c u) ∨
    (s.provingTry + 1 ≠ 5 ∧
      abortProving s = { s with provingTry := s.provingTry + 1, provingErrors := 0, furtherProving := true }) := by
  unfold abortProving
  dsimp only
  split
  · exact .inl ⟨_, _, rfl, rfl⟩
  · next hne => exact .inr ⟨hne, rfl⟩

theorem abortProving_linkInv {s : State} (h : LinkInv s) (hs : s.state = .proving) : LinkInv (abortProving s) := by
  rcases abortProving_cases s with ⟨c, u, hu, he⟩ | ⟨hne, he⟩ <;> rw [he]
  · exact fail_linkInv (hu ▸ h.params) c
  · have htries := h.counters.tries
    exact h.with_proving hs (by omega) (Nat.zero_le 3) true

/-- The end of a proving period in PROVING is another period, or one of the ready states with T1 started (40_fsm.md
R173). -/
theorem provingComplete_cases (s : State) :
    (s.furtherProving = true ∧
      provingComplete s = setTimer .t4 ⟨true, timerDuration s .t4⟩
        { s with furtherProving := false, provingErrors := 0 }) ∨
    (s.furtherProving = false ∧
      provingComplete s = setTimer .t4 Timer.off (setTimer .t1 ⟨true, timerDuration s .t1⟩
        { s with
          txLssu := if s.localOutage then some lssuSIPO else none
          state := if s.localOutage then .alignedNotReady else .alignedReady })) := by
  unfold provingComplete
  cases hf : s.furtherProving with
  | true =>
    refine .inl ⟨rfl, ?_⟩
    simp only [cancel_state, cancel_furtherProving, hf, if_true]
    rfl
  | false =>
    refine .inr ⟨rfl, ?_⟩
    cases hl : s.localOutage <;> simp only [cancel_furtherProving, cancel_localOutage, hf, hl] <;> rfl

/-- Row 18 (40_fsm.md R173). -/
theorem provingComplete_linkInv {s : State} (h : LinkInv s) (hs : s.state = .proving) :
    LinkInv (provingComplete s) := by
  have hremote : s.remoteOutage = false := by simpa [outageFits, hs] using h.outage
  have hleft : ∀ n, s.state.timer = some n → n = .t4 := by simp [hs, LinkState.timer]
  rcases provingComplete_cases s with ⟨-, he⟩ | ⟨hf, he⟩ <;> rw [he]
  · have hperiod := h.with_proving hs h.counters.tries (Nat.zero_le 3) false
    exact
      { params := h.params
        queue := { hperiod.queue with }
        timers := h.timers.moved h.params hleft fun n => by
          rw [setTimer_state, hs]
          cases n <;> rfl
        lssu := hperiod.lssu
        outage := hperiod.outage
        counters := { hperiod.counters with }
        sequence := hperiod.sequence }
  · have hempty := h.queue.empty (by simp [hs])
    cases hl : s.localOutage <;>
    exact
      { params := h.params
        queue := .of_empty hempty
        timers := h.timers.moved h.params hleft
        lssu := rfl
        outage := ⟨rfl, hremote⟩
        counters :=
          { tries := h.counters.tries
            proving := h.counters.proving
            errors := h.counters.errors
            good := h.counters.good
            idle := nofun
            beforeProving := nofun
            further := fun hfurther => absurd (hf.symm.trans hfurther) nofun }
        sequence := nofun }

/-! ### The in-service group -/

/-- A move within the in-service group that keeps the traffic: what is left to show is the timers and the two outputs of
the state. -/
theorem LinkInv.service_move {s t : State} (h : LinkInv s) (hs : s.state.inServiceGroup = true)
    (ht : t.state.inServiceGroup = true)
    (hqueue : s.state = .inService ∨ s.state = .processorOutage → t.state = .inService ∨ t.state = .processorOutage)
    (htimers : TimerInv t) (hlssu : lssuFits t) (houtage : outageFits t) (same : SameTraffic s t := by exact {})
    (proving : SameProving s t := by exact {}) : LinkInv t where
  params := same.params ▸ h.params
  queue := h.queue.of_sameTraffic same hqueue
  timers := htimers
  lssu := hlssu
  outage := houtage
  counters := h.counters.of_same same proving (fun hout => absurd (ht.symm.trans hout) nofun) fun hp => by
    rw [hp] at hs
    exact absurd hs nofun
  sequence := sequenceFits_of_group ht

/-- T1 is the only timer of the in-service group (45_timers.md R374). -/
theorem LinkState.timer_of_group {st : LinkState} (h : st.inServiceGroup = true) (n : TimerId)
    (hn : st.timer = some n) : n = .t1 := by
  cases st <;> simp_all [LinkState.timer, LinkState.inServiceGroup]

/-- Row 25 (40_fsm.md R190). -/
theorem remoteOutageBegins_linkInv {s : State} (h : LinkInv s)
    (hs : s.state = .alignedReady ∨ s.state = .alignedNotReady ∨ s.state = .inService) :
    LinkInv (remoteOutageBegins s) := by
  have hgroup : s.state.inServiceGroup = true := by rcases hs with hs | hs | hs <;> rw [hs] <;> rfl
  have hlssu : s.txLssu = if s.localOutage then some lssuSIPO else none := by
    have hl := h.lssu
    have ho := h.outage
    rcases hs with hs | hs | hs <;> simp_all [lssuFits, outageFits]
  exact h.service_move hgroup rfl (fun _ => .inr rfl) (h.timers.moved h.params (LinkState.timer_of_group hgroup))
    hlssu (.inr rfl)

/-- Row 26 (40_fsm.md R199). -/
theorem remoteOutageRecorded_linkInv {s : State} (h : LinkInv s) (hs : s.state = .processorOutage) :
    LinkInv (remoteOutageRecorded s) := by
  unfold remoteOutageRecorded
  split
  · exact h
  · have hgroup : s.state.inServiceGroup = true := by rw [hs]; rfl
    have hrecorded : LinkInv { s with remoteOutage := true } :=
      h.service_move hgroup hgroup id (h.timers.of_same rfl) h.lssu (by simp [outageFits, hs])
    exact hrecorded.indicate _

/-- Rows 27 and 28 before their sequence processing (40_fsm.md R191, R192). -/
theorem linkUp_inService_linkInv {s : State} (h : LinkInv s) (hs : s.state = .alignedReady) :
    LinkInv (linkUp .inService s) := by
  have hgroup : s.state.inServiceGroup = true := by rw [hs]; rfl
  have hlssu : s.txLssu = none := by simpa [lssuFits, hs] using h.lssu
  have houtage : s.localOutage = false ∧ s.remoteOutage = false := by simpa [outageFits, hs] using h.outage
  exact h.service_move hgroup rfl (fun _ => .inl rfl) (h.timers.moved h.params (LinkState.timer_of_group hgroup))
    hlssu houtage

/-- Rows 29 and 30 before their sequence processing (40_fsm.md R193, R194). -/
theorem linkUp_processorOutage_linkInv {s : State} (h : LinkInv s) (hs : s.state = .alignedNotReady) :
    LinkInv (linkUp .processorOutage s) := by
  have hgroup : s.state.inServiceGroup = true := by rw [hs]; rfl
  obtain ⟨hlocal, -⟩ : s.localOutage = true ∧ s.remoteOutage = false := by simpa [outageFits, hs] using h.outage
  exact h.service_move hgroup rfl (fun _ => .inr rfl) (h.timers.moved h.params (LinkState.timer_of_group hgroup))
    (by simpa [lssuFits, hs, linkUp, hlocal] using h.lssu) (.inl hlocal)

/-- The check of rows 33 and 34 (40_fsm.md R200, R201). -/
theorem remoteRecoveryCheck_linkInv {s : State} (h : LinkInv s) (hs : s.state = .processorOutage) :
    LinkInv (remoteRecoveryCheck s) := by
  have hgroup : s.state.inServiceGroup = true := by rw [hs]; rfl
  have hlssu : s.txLssu = if s.localOutage then some lssuSIPO else none := by simpa [lssuFits, hs] using h.lssu
  unfold remoteRecoveryCheck
  split
  · split
    · next hlocal =>
      exact h.service_move hgroup hgroup id (h.timers.of_same rfl) (by simpa [lssuFits, hs] using hlssu)
        (by simpa [outageFits, hs] using hlocal)
    · next hlocal =>
      have hlocal : s.localOutage = false := by simpa using hlocal
      have hmoved : LinkInv { s with remoteOutage := false, state := .inService, txLssu := none } :=
        h.service_move hgroup rfl (fun _ => .inl rfl) (h.timers.of_same (by rw [hs]; rfl)) rfl ⟨hlocal, rfl⟩
      exact hmoved.indicate _
  · exact h

/-- Row 35 (40_fsm.md R196). -/
theorem localOutageBegins_notReady_linkInv {s : State} (h : LinkInv s) (hs : s.state = .alignedReady) :
    LinkInv (localOutageBegins .alignedNotReady s) := by
  have hgroup : s.state.inServiceGroup = true := by rw [hs]; rfl
  obtain ⟨-, hremote⟩ : s.localOutage = false ∧ s.remoteOutage = false := by simpa [outageFits, hs] using h.outage
  exact h.service_move hgroup rfl (by simp [hs]) (h.timers.of_same (by rw [hs]; rfl)) rfl ⟨rfl, hremote⟩

/-- Rows 37 and 38 (40_fsm.md R198, R202). -/
theorem localOutageBegins_outage_linkInv {s : State} (h : LinkInv s)
    (hs : s.state = .inService ∨ s.state = .processorOutage) : LinkInv (localOutageBegins .processorOutage s) := by
  have hgroup : s.state.inServiceGroup = true := by rcases hs with hs | hs <;> rw [hs] <;> rfl
  have htimer : LinkState.timer .processorOutage = s.state.timer := by
    rcases hs with hs | hs <;> simp [hs, LinkState.timer]
  exact h.service_move hgroup rfl (fun _ => .inr rfl) (h.timers.of_same htimer) rfl (.inl rfl)

/-- Row 36 (40_fsm.md R197). -/
theorem localOutageEndsNotReady_linkInv {s : State} (h : LinkInv s) (hs : s.state = .alignedNotReady) :
    LinkInv (localOutageEndsNotReady s) := by
  have hgroup : s.state.inServiceGroup = true := by rw [hs]; rfl
  obtain ⟨-, hremote⟩ : s.localOutage = true ∧ s.remoteOutage = false := by simpa [outageFits, hs] using h.outage
  exact h.service_move hgroup rfl (by simp [hs]) (h.timers.of_same (by rw [hs]; rfl)) rfl ⟨rfl, hremote⟩

/-- Row 39 (40_fsm.md R203). -/
theorem localOutageEnds_linkInv {s : State} (h : LinkInv s) (hs : s.state = .processorOutage) :
    LinkInv (localOutageEnds s) := by
  have hgroup : s.state.inServiceGroup = true := by rw [hs]; rfl
  unfold localOutageEnds
  dsimp only
  split
  · next hremote =>
    exact h.service_move hgroup hgroup id (h.timers.of_same rfl) (by simp [lssuFits, hs])
      (by simpa [outageFits, hs] using hremote)
  · next hremote =>
    have hremote : s.remoteOutage = false := by simpa using hremote
    have hmoved : LinkInv { s with localOutage := false, txLssu := none, state := .inService } :=
      h.service_move hgroup rfl (fun _ => .inl rfl) (h.timers.of_same (by rw [hs]; rfl)) rfl ⟨rfl, hremote⟩
    exact hmoved.indicate _

/-- Rows 40 and 41: the flag is recorded where the state does not show it (40_fsm.md R204, R205). -/
theorem LinkInv.with_localOutage {s : State} (h : LinkInv s) (b : Bool) (hs : s.state ≠ .processorOutage)
    (hset : b = true → s.state ≠ .alignedReady ∧ s.state ≠ .inService)
    (hclear : b = false → s.state ≠ .alignedNotReady) : LinkInv { s with localOutage := b } := by
  have hlssu := h.lssu
  have houtage := h.outage
  refine ⟨h.params, { h.queue with }, { h.timers with }, ?_, ?_, { h.counters with }, h.sequence⟩
  · cases hst : s.state <;> simp_all [lssuFits]
  · cases hst : s.state <;> cases b <;> simp_all [outageFits]

/-! ### Sequence processing -/

theorem ackOrNack_linkInv {s : State} (h : LinkInv s) (hs : s.state.inServiceGroup = true) (bsn : Seq) (b : Bool) :
    LinkInv (ackOrNack bsn b s) := by
  unfold ackOrNack
  split
  · obtain ⟨pre, hq⟩ := ack_suffix bsn s
    exact h.with_sequence hs (h.queue.of_suffix hq) s.txSeq s.rxSeq s.fib s.bib s.txNack
  · rcases nack_cases bsn b s with ⟨-, he⟩ | ⟨-, he⟩ <;> rw [he]
    · exact h.with_sequence hs h.queue bsn s.rxSeq b s.bib s.txNack
    · exact h

theorem acceptMsu_linkInv {s : State} (h : LinkInv s) (hs : s.state.inServiceGroup = true) (a : EventArg) :
    LinkInv (acceptMsu a s) := by
  unfold acceptMsu
  split
  · exact (h.with_sequence hs h.queue s.txSeq a.fsn s.fib s.bib s.txNack).indicate _
  · split
    · exact h.with_sequence hs h.queue s.txSeq s.rxSeq s.fib s.bib true
    · exact h

@[simp] theorem ackOrNack_state (bsn : Seq) (b : Bool) (s : State) : (ackOrNack bsn b s).state = s.state := by
  unfold ackOrNack nack
  split
  · rfl
  · split <;> rfl

@[simp] theorem acceptMsu_state (a : EventArg) (s : State) : (acceptMsu a s).state = s.state := by
  unfold acceptMsu
  split
  · rfl
  · split <;> rfl

@[simp] theorem seqRxFisu_state (a : EventArg) (s : State) : (seqRxFisu a s).state = s.state := ackOrNack_state _ _ s

@[simp] theorem seqRxMsu_state (a : EventArg) (s : State) : (seqRxMsu a s).state = s.state := by simp [seqRxMsu]

theorem seqRxFisu_linkInv {s : State} (h : LinkInv s) (hs : s.state.inServiceGroup = true) (a : EventArg) :
    LinkInv (seqRxFisu a s) := ackOrNack_linkInv h hs _ _

theorem seqRxMsu_linkInv {s : State} (h : LinkInv s) (hs : s.state.inServiceGroup = true) (a : EventArg) :
    LinkInv (seqRxMsu a s) := by
  refine acceptMsu_linkInv (ackOrNack_linkInv h hs _ _) ?_ a
  rw [ackOrNack_state, hs]

/-! ### Rows, monitors and events -/

/-- The outage check of rows 33 and 34 stays in the in-service group. -/
theorem remoteRecoveryCheck_group {s : State} (hs : s.state = .processorOutage) :
    (remoteRecoveryCheck s).state.inServiceGroup = true := by
  unfold remoteRecoveryCheck
  split
  · split
    · rw [hs]; rfl
    · rfl
  · rw [hs]; rfl

/-- Every row keeps the link part of the invariant (40_fsm.md R143). -/
theorem RowEffect.linkInv {a : EventArg} {s t : State} (h : LinkInv s) (e : RowEffect a s t) : LinkInv t := by
  have group {st : LinkState} (hs : s.state = st) (hst : st.inServiceGroup = true) : s.state.inServiceGroup = true :=
    hs ▸ hst
  cases e with
  | stop => exact stop_linkInv h.params
  | emergency b => exact h.with_localEmergency b
  | start hs => exact startAlignment_linkInv h hs
  | enterAligned hs st => exact enterAligned_linkInv h hs st
  | fail _ _ c => exact fail_linkInv h.params c
  | enterProving hs st => exact enterProving_linkInv h hs st
  | correctSu hs => exact h.with_proving hs h.counters.tries h.counters.proving false
  | abortProving hs => exact abortProving_linkInv h hs
  | provingComplete hs => exact provingComplete_linkInv h hs
  | remoteOutageBegins hs => exact remoteOutageBegins_linkInv h hs
  | remoteOutageRecorded hs => exact remoteOutageRecorded_linkInv h hs
  | fisuReady hs => exact seqRxFisu_linkInv (linkUp_inService_linkInv h hs) rfl a
  | msuReady hs => exact seqRxMsu_linkInv (linkUp_inService_linkInv h hs) rfl a
  | fisuNotReady hs => exact seqRxFisu_linkInv (linkUp_processorOutage_linkInv h hs) rfl a
  | msuNotReady hs => exact seqRxMsu_linkInv (linkUp_processorOutage_linkInv h hs) rfl a
  | fisu hs => exact seqRxFisu_linkInv h (group hs rfl) a
  | msu hs => exact seqRxMsu_linkInv h (group hs rfl) a
  | fisuOutage hs => exact seqRxFisu_linkInv (remoteRecoveryCheck_linkInv h hs) (remoteRecoveryCheck_group hs) a
  | msuOutage hs => exact seqRxMsu_linkInv (remoteRecoveryCheck_linkInv h hs) (remoteRecoveryCheck_group hs) a
  | outageReady hs => exact localOutageBegins_notReady_linkInv h hs
  | outageService hs => exact localOutageBegins_outage_linkInv h hs
  | recoveredNotReady hs => exact localOutageEndsNotReady_linkInv h hs
  | recovered hs => exact localOutageEnds_linkInv h hs
  | outageRecorded hready hservice houtage => exact h.with_localOutage true houtage (fun _ => ⟨hready, hservice⟩) nofun
  | recoveryRecorded hnotReady houtage => exact h.with_localOutage false houtage nofun fun _ => hnotReady

theorem searchTable_linkInv {s : State} (h : LinkInv s) (ev : Event) (a : EventArg) :
    LinkInv (searchTable ev a s).1 := by
  rcases searchTable_effect ev a s with he | he
  · rwa [he]
  · exact he.linkInv h

/-- A good frame in service: the counter wraps at D_GOOD, or counts (44_error_monitor.md R355). -/
theorem inServiceGood_linkInv {s : State} (h : LinkInv s) (hs : s.state.inServiceGroup = true) :
    LinkInv (inServiceGood s) := by
  have herrors := h.counters.errors
  have hgood := h.counters.good
  unfold inServiceGood Config.dGood
  split
  · exact h.with_monitor hs (by omega) (Nat.zero_le _)
  · exact h.with_monitor hs herrors (by omega)

/-- LINK_FAILURE in the in-service group fails (40_fsm.md R180). -/
theorem raiseFromMonitor_linkFailure {s : State} (hs : s.state.inServiceGroup = true) :
    raiseFromMonitor .linkFailure s = fail .linkFailureLocal s := by
  unfold raiseFromMonitor
  rw [searchTable_eq]
  cases hst : s.state <;> first | rfl | (rw [hst] at hs; exact absurd hs nofun)

/-- ABORT_PROVING in PROVING runs row 15 (40_fsm.md R171). -/
theorem raiseFromMonitor_abortProving {s : State} (hs : s.state = .proving) :
    raiseFromMonitor .abortProving s = abortProving s := by
  unfold raiseFromMonitor
  rw [searchTable_eq, hs]
  rfl

/-- A bad frame in service: the link fails at the threshold (44_error_monitor.md R356). -/
theorem inServiceBad_linkInv {s : State} (h : LinkInv s) (hs : s.state.inServiceGroup = true) :
    LinkInv (inServiceBad s) := by
  unfold inServiceBad Config.tMonitor
  dsimp only
  split
  · rw [raiseFromMonitor_linkFailure (by exact hs)]
    exact fail_linkInv h.params _
  · exact h.with_monitor hs (by omega) (Nat.zero_le _)

/-- Neither threshold of proving is above 4 (44_error_monitor.md R353). -/
theorem provingThreshold_le (s : State) : provingThreshold s ≤ 4 := by
  unfold provingThreshold
  split <;> decide

/-- The error count plays no part in row 15, which clears it (40_fsm.md R171). -/
theorem abortProving_with_provingErrors (s : State) (n : Nat) :
    abortProving { s with provingErrors := n } = abortProving s := rfl

/-- A bad frame in proving: the period is aborted at the threshold (44_error_monitor.md R352). -/
theorem provingBad_linkInv {s : State} (h : LinkInv s) (hs : s.state = .proving) : LinkInv (provingBad s) := by
  unfold provingBad
  dsimp only
  split
  · rw [raiseFromMonitor_abortProving (by exact hs), abortProving_with_provingErrors]
    exact abortProving_linkInv h hs
  · next hlow =>
    have hthreshold := provingThreshold_le { s with provingErrors := s.provingErrors + 1 }
    exact h.with_proving hs h.counters.tries (by omega) s.furtherProving

theorem monitorHook_linkInv {s : State} (h : LinkInv s) (ev : Event) : LinkInv (monitorHook ev s) := by
  rcases monitorHook_cases ev s with he | ⟨-, -, hs, he⟩ | ⟨-, -, hs, he⟩ | ⟨-, -, hs, he⟩ <;> rw [he]
  · exact h
  · exact inServiceGood_linkInv h hs
  · exact provingBad_linkInv h hs
  · exact inServiceBad_linkInv h hs

/-- Every event keeps the link part of the invariant (40_fsm.md R141). -/
theorem raise_linkInv {s : State} (h : LinkInv s) (ev : Event) (a : EventArg) : LinkInv (raise ev a s) :=
  searchTable_linkInv (monitorHook_linkInv h ev) ev a

end Sys2Proof.Machine
end

section
/-! SUPPORT. The timer controller and the transmitter keep the invariant (45_timers.md R370, 41_framer_tx.md). -/

namespace Sys2Proof.Machine

/-! ### TIMER_TICK (45_timers.md R370) -/

/-- A timer of another state is off, so its decrement changes nothing. -/
theorem TimerInv.tick_eq {s : State} (h : TimerInv s) {n : TimerId} (hn : s.state.timer ≠ some n) :
    (getTimer n s).tick = getTimer n s := by
  rw [h.getTimer_off hn]
  rfl

/-- In a state without a timer no count changes. -/
theorem decrementTimers_of_no_timer {s : State} (h : TimerInv s) (hs : s.state.timer = none) :
    decrementTimers s = s := by
  have hkeep : ∀ n, (getTimer n s).tick = getTimer n s := fun n => h.tick_eq (by simp [hs])
  have h1 : s.t1.tick = s.t1 := hkeep .t1
  have h2 : s.t2.tick = s.t2 := hkeep .t2
  have h3 : s.t3.tick = s.t3 := hkeep .t3
  have h4 : s.t4.tick = s.t4 := hkeep .t4
  simp only [decrementTimers, h1, h2, h3, h4]

/-- The decrement counts the timer of the state only. -/
theorem decrementTimers_of_timer {s : State} (h : TimerInv s) {n : TimerId} (hs : s.state.timer = some n) :
    decrementTimers s = setTimer n ⟨true, (getTimer n s).count - 1⟩ s := by
  have hkeep : ∀ m, m ≠ n → (getTimer m s).tick = getTimer m s := fun m hm =>
    h.tick_eq (by simpa [hs] using hm.symm)
  have h1 : TimerId.t1 ≠ n → s.t1.tick = s.t1 := hkeep .t1
  have h2 : TimerId.t2 ≠ n → s.t2.tick = s.t2 := hkeep .t2
  have h3 : TimerId.t3 ≠ n → s.t3.tick = s.t3 := hkeep .t3
  have h4 : TimerId.t4 ≠ n → s.t4.tick = s.t4 := hkeep .t4
  have hcounted : (getTimer n s).tick = ⟨true, (getTimer n s).count - 1⟩ := by
    simp [Timer.tick, (h.armed_iff n).2 hs]
  rw [← hcounted]
  cases n <;> simp [decrementTimers, setTimer, getTimer, h1, h2, h3, h4]

/-- No timer of a state that meets the invariant is due (log entry 11). -/
theorem expireTimer_of_timerInv {s : State} (h : TimerInv s) (n : TimerId) : expireTimer n s = s := by
  rcases expireTimer_cases n s with he | ⟨harmed, hzero, -⟩
  · exact he
  · have hcount := (h.inRange n).1 harmed
    omega

/-- A timer that is due does not make another one due. -/
theorem expireTimer_setTimer_of_ne {s : State} (h : TimerInv s) {n m : TimerId} (hnm : n ≠ m) (t : Timer) :
    expireTimer m (setTimer n t s) = setTimer n t s := by
  rcases expireTimer_cases m (setTimer n t s) with he | ⟨harmed, hzero, -⟩
  · exact he
  · rw [getTimer_setTimer, if_neg hnm] at harmed hzero
    have hcount := (h.inRange m).1 harmed
    omega

/-- A timer that is due is disarmed and its event is raised. -/
theorem expireTimer_of_due (n : TimerId) (s : State) :
    expireTimer n (setTimer n ⟨true, 0⟩ s) = raise (timeoutEvent n) EventArg.empty (setTimer n Timer.off s) := by
  simp [expireTimer, Timer.off]

theorem tickTimers_of_no_timer {s : State} (h : TimerInv s) (hs : s.state.timer = none) : tickTimers s = s := by
  simp only [tickTimers, decrementTimers_of_no_timer h hs, expireTimer_of_timerInv h]

/-- A tick that does not bring the timer of the state to 0 counts it down. -/
theorem tickTimers_of_running {s : State} (h : TimerInv s) {n : TimerId} (hs : s.state.timer = some n)
    (hafter : TimerInv (setTimer n ⟨true, (getTimer n s).count - 1⟩ s)) :
    tickTimers s = setTimer n ⟨true, (getTimer n s).count - 1⟩ s := by
  simp only [tickTimers, decrementTimers_of_timer h hs, expireTimer_of_timerInv hafter]

/-- A tick that brings the timer of the state to 0 disarms it and raises its event. -/
theorem tickTimers_of_due {s : State} (h : TimerInv s) {n : TimerId} (hs : s.state.timer = some n)
    (hcount : (getTimer n s).count = 1)
    (hafter : TimerInv (raise (timeoutEvent n) EventArg.empty (setTimer n Timer.off s))) :
    tickTimers s = raise (timeoutEvent n) EventArg.empty (setTimer n Timer.off s) := by
  rw [tickTimers, decrementTimers_of_timer h hs, hcount]
  cases n with
  | t1 => rw [expireTimer_of_due]; simp only [expireTimer_of_timerInv hafter]
  | t2 =>
    rw [expireTimer_setTimer_of_ne h (by decide), expireTimer_of_due]
    simp only [expireTimer_of_timerInv hafter]
  | t3 =>
    rw [expireTimer_setTimer_of_ne h (by decide), expireTimer_setTimer_of_ne h (by decide), expireTimer_of_due,
      expireTimer_of_timerInv hafter]
  | t4 =>
    rw [expireTimer_setTimer_of_ne h (by decide), expireTimer_setTimer_of_ne h (by decide),
      expireTimer_setTimer_of_ne h (by decide), expireTimer_of_due]

/-- T1's expiry fails the link (40_fsm.md R181). -/
theorem raise_t1Timeout {s : State} (hs : s.state = .alignedReady ∨ s.state = .alignedNotReady) (a : EventArg) :
    raise .t1Timeout a s = fail .linkFailureLocal s := by
  rw [raise, dispatch_of_no_hook (ev := .t1Timeout) nofun nofun nofun, searchTable_eq]
  rcases hs with hs | hs <;> rw [hs] <;> rfl

/-- T2's expiry fails the alignment (40_fsm.md R159). -/
theorem raise_t2Timeout {s : State} (hs : s.state = .notAligned) (a : EventArg) :
    raise .t2Timeout a s = fail .alignmentTimeout s := by
  rw [raise, dispatch_of_no_hook (ev := .t2Timeout) nofun nofun nofun, searchTable_eq, hs]
  rfl

/-- T3's expiry fails the alignment (40_fsm.md R164). -/
theorem raise_t3Timeout {s : State} (hs : s.state = .aligned) (a : EventArg) :
    raise .t3Timeout a s = fail .provingTimeout s := by
  rw [raise, dispatch_of_no_hook (ev := .t3Timeout) nofun nofun nofun, searchTable_eq, hs]
  rfl

/-- T4's expiry ends the proving period (40_fsm.md R173). -/
theorem raise_t4Timeout {s : State} (hs : s.state = .proving) (a : EventArg) :
    raise .t4Timeout a s = provingComplete s := by
  rw [raise, dispatch_of_no_hook (ev := .t4Timeout) nofun nofun nofun, searchTable_eq, hs]
  rfl

/-- Row 18 cancels T4 itself, so what T4 held does not matter (40_fsm.md R173). -/
theorem provingComplete_setTimer (t : Timer) (s : State) : provingComplete (setTimer .t4 t s) = provingComplete s := rfl

/-- The expiry of the timer of the state leaves a state that meets the link part, although the disarmed timer between
the two does not fit it. -/
theorem raise_timeout_linkInv {s : State} (h : LinkInv s) {n : TimerId} (hs : s.state.timer = some n) :
    LinkInv (raise (timeoutEvent n) EventArg.empty (setTimer n Timer.off s)) := by
  cases n with
  | t1 =>
    rw [timeoutEvent, raise_t1Timeout (by simpa using hs)]
    exact fail_linkInv h.params _
  | t2 =>
    rw [timeoutEvent, raise_t2Timeout (by simpa using hs)]
    exact fail_linkInv h.params _
  | t3 =>
    rw [timeoutEvent, raise_t3Timeout (by simpa using hs)]
    exact fail_linkInv h.params _
  | t4 =>
    have hproving : s.state = .proving := by simpa using hs
    rw [timeoutEvent, raise_t4Timeout (by rwa [setTimer_state]), provingComplete_setTimer]
    exact provingComplete_linkInv h hproving

@[simp] theorem longestDuration_setTimer (n m : TimerId) (t : Timer) (s : State) :
    longestDuration (setTimer n t s) m = longestDuration s m := by cases n <;> cases m <;> rfl

/-- The timer of the state may hold any count in its range. -/
theorem LinkInv.with_count {s : State} (h : LinkInv s) {n : TimerId} (hs : s.state.timer = some n) {count : Nat}
    (hpos : 1 ≤ count) (hlong : count ≤ longestDuration s n) : LinkInv (setTimer n ⟨true, count⟩ s) := by
  have htimers : TimerInv (setTimer n ⟨true, count⟩ s) := by
    rw [timerInv_iff]
    intro m
    rw [getTimer_setTimer, setTimer_state, longestDuration_setTimer]
    split
    · next hnm => exact ⟨by simp [hs, hnm], fun _ => ⟨hpos, hnm ▸ hlong⟩, nofun⟩
    · exact ⟨h.timers.armed_iff m, h.timers.inRange m⟩
  cases n <;>
    exact ⟨h.params, { h.queue with }, htimers, h.lssu, h.outage, { h.counters with }, h.sequence⟩

/-- A tick keeps the link part of the invariant: nothing runs, the timer of the state counts down, or it expires. -/
theorem tickTimers_linkInv {s : State} (h : LinkInv s) : LinkInv (tickTimers s) := by
  cases hs : s.state.timer with
  | none => rwa [tickTimers_of_no_timer h.timers hs]
  | some n =>
    obtain ⟨hpos, hlong⟩ := h.timers.count_of_timer hs
    by_cases hdue : (getTimer n s).count = 1
    · have hexpired := raise_timeout_linkInv h hs
      rwa [tickTimers_of_due h.timers hs hdue hexpired.timers]
    · have hcounted := h.with_count hs (count := (getTimer n s).count - 1) (by omega) (by omega)
      rwa [tickTimers_of_running h.timers hs hcounted.timers]

/-! ### No operation enters POWER_OFF (40_fsm.md R206) -/

theorem RowEffect.ne_powerOff {a : EventArg} {s t : State} (h : s.state ≠ .powerOff) (e : RowEffect a s t) :
    t.state ≠ .powerOff := by
  cases e with
  | emergency | outageRecorded | recoveryRecorded | correctSu => exact h
  | abortProving =>
    rcases abortProving_cases s with ⟨c, u, -, he⟩ | ⟨-, he⟩ <;> rw [he]
    · nofun
    · exact h
  | provingComplete =>
    rcases provingComplete_cases s with ⟨-, he⟩ | ⟨-, he⟩ <;> rw [he]
    · exact h
    · cases hl : s.localOutage <;> nofun
  | remoteOutageRecorded => unfold Machine.remoteOutageRecorded; split <;> exact h
  | fisuReady | msuReady | fisuNotReady | msuNotReady => simp [linkUp]
  | fisu | msu => simpa using h
  | fisuOutage hs | msuOutage hs =>
    intro hoff
    have hgroup := remoteRecoveryCheck_group hs
    simp_all [LinkState.inServiceGroup]
  | recovered =>
    unfold localOutageEnds
    dsimp only
    split
    · exact h
    · nofun
  | _ => nofun

theorem searchTable_ne_powerOff {s : State} (h : s.state ≠ .powerOff) (ev : Event) (a : EventArg) :
    (searchTable ev a s).1.state ≠ .powerOff := by
  rcases searchTable_effect ev a s with he | he
  · rwa [he]
  · exact he.ne_powerOff h

theorem monitorHook_ne_powerOff {s : State} (h : s.state ≠ .powerOff) (ev : Event) :
    (monitorHook ev s).state ≠ .powerOff := by
  rcases monitorHook_cases ev s with he | ⟨-, -, -, he⟩ | ⟨-, -, -, he⟩ | ⟨-, -, -, he⟩ <;> rw [he]
  · exact h
  · unfold inServiceGood
    split <;> exact h
  · unfold provingBad raiseFromMonitor
    dsimp only
    split
    · refine searchTable_ne_powerOff ?_ _ _
      exact h
    · exact h
  · unfold inServiceBad raiseFromMonitor
    dsimp only
    split
    · refine searchTable_ne_powerOff ?_ _ _
      exact h
    · exact h

theorem raise_ne_powerOff {s : State} (h : s.state ≠ .powerOff) (ev : Event) (a : EventArg) :
    (raise ev a s).state ≠ .powerOff := searchTable_ne_powerOff (monitorHook_ne_powerOff h ev) ev a

theorem expireTimer_ne_powerOff {s : State} (h : s.state ≠ .powerOff) (n : TimerId) :
    (expireTimer n s).state ≠ .powerOff := by
  rcases expireTimer_cases n s with he | ⟨-, -, he⟩ <;> rw [he]
  · exact h
  · exact raise_ne_powerOff (by rwa [setTimer_state]) _ _

theorem tickTimers_ne_powerOff {s : State} (h : s.state ≠ .powerOff) : (tickTimers s).state ≠ .powerOff :=
  expireTimer_ne_powerOff (expireTimer_ne_powerOff (expireTimer_ne_powerOff
    (expireTimer_ne_powerOff (s := decrementTimers s) h .t1) .t2) .t3) .t4

/-! ### TX_BIT (41_framer_tx.md R240) -/

/-- What a bit sent keeps: the state, the receiver, the parameters and the indications. -/
structure SendFrame (s t : State) : Prop where
  state : t.state = s.state := by rfl
  rx : t.rx = s.rx := by rfl
  params : t.params = s.params := by rfl
  indOut : t.indOut = s.indOut := by rfl

theorem SendFrame.trans {s t u : State} (h : SendFrame s t) (h' : SendFrame t u) : SendFrame s u :=
  ⟨h'.state.trans h.state, h'.rx.trans h.rx, h'.params.trans h.params, h'.indOut.trans h.indOut⟩

theorem flipBib_sendFrame (s : State) : SendFrame s (flipBib s) := by
  rw [flipBib_eq]
  exact {}

theorem chooseBody_sendFrame (s : State) : SendFrame s (chooseBody s).2 := by
  rcases chooseBody_cases s with ⟨st, -, h⟩ | ⟨-, h, -⟩ | ⟨-, pre, e, post, -, -, -, -, h⟩ <;> rw [h] <;> exact {}

theorem buildFrame_sendFrame (s : State) : SendFrame s (buildFrame s).2 := by
  by_cases hoff : s.state = .powerOff
  · rw [buildFrame_powerOff hoff]
    exact {}
  · have hbody := (flipBib_sendFrame s).trans (chooseBody_sendFrame (flipBib s))
    rw [buildFrame, if_neg hoff]
    exact hbody.trans {}

theorem startFlag_sendFrame (s : State) : SendFrame s (startFlag s) := by
  unfold startFlag
  split
  · exact (buildFrame_sendFrame s).trans {}
  · exact {}

theorem sendBit_sendFrame (s : State) : SendFrame s (sendBit s).2 := by
  unfold sendBit
  split
  · exact (startFlag_sendFrame s).trans {}
  · exact {}

/-- No LSSU is sent in the in-service group only (R252). -/
theorem LinkInv.group_of_no_lssu {s : State} (h : LinkInv s) (hn : s.txLssu = none) :
    s.state.inServiceGroup = true := by
  have hlssu := h.lssu
  cases hs : s.state <;> simp_all [lssuFits, LinkState.inServiceGroup]

/-- A negative acknowledgement is due in the in-service group only (10_state.md R32). -/
theorem LinkInv.group_of_txNack {s : State} (h : LinkInv s) (hn : s.txNack = true) : s.state.inServiceGroup = true := by
  by_contra hout
  obtain ⟨-, -, -, -, -, hnack⟩ := h.sequence (by simpa using hout)
  exact absurd (hnack.symm.trans hn) nofun

theorem flipBib_linkInv {s : State} (h : LinkInv s) : LinkInv (flipBib s) := by
  unfold flipBib
  split
  · next hn => exact h.with_sequence (h.group_of_txNack hn) h.queue s.txSeq s.rxSeq s.fib (!s.bib) false
  · exact h

/-- Select marks an entry and moves `tx_seq`, in the in-service group (43_sequencing.md R316). -/
theorem chooseBody_linkInv {s : State} (h : LinkInv s) : LinkInv (chooseBody s).2 := by
  rcases chooseBody_cases s with ⟨st, -, he⟩ | ⟨-, he, -⟩ | ⟨hn, pre, e, post, -, hq, -, -, he⟩ <;> rw [he]
  · exact h
  · exact h
  · exact h.with_sequence (h.group_of_no_lssu hn) (h.queue.of_marked hq) e.seq s.rxSeq s.fib s.bib s.txNack

theorem buildFrame_linkInv {s : State} (h : LinkInv s) : LinkInv (buildFrame s).2 := by
  by_cases hoff : s.state = .powerOff
  · rwa [buildFrame_powerOff hoff]
  · have hbody := chooseBody_linkInv (flipBib_linkInv h)
    rw [buildFrame, if_neg hoff]
    exact hbody.with_ports _ _ _ _ _

theorem startFlag_linkInv {s : State} (h : LinkInv s) : LinkInv (startFlag s) := by
  unfold startFlag
  split
  · exact (buildFrame_linkInv h).with_ports _ _ _ _ _
  · exact h

theorem sendBit_linkInv {s : State} (h : LinkInv s) : LinkInv (sendBit s).2 := by
  unfold sendBit
  split
  · exact (startFlag_linkInv h).with_ports _ _ _ _ _
  · exact h.with_ports _ _ _ _ _

/-- A frame body has 3 bytes of header, and at most a service indicator octet and TX_MAX_DATA bytes more (R242). -/
theorem chooseBody_length {s : State} (h : QueueInv s) :
    3 ≤ (chooseBody s).1.length ∧ (chooseBody s).1.length ≤ 4 + s.params.txMaxData := by
  rcases chooseBody_cases s with ⟨st, -, he⟩ | ⟨-, he, -⟩ | ⟨-, pre, e, post, -, hq, -, -, he⟩ <;> rw [he]
  · simp [lssuBody]
  · simp [fisuBody]
    omega
  · have hsize := h.sizes e (by simp [hq])
    simp [msuBody]
    omega

/-- The transmitter at the start of a flag: no frame to build, none built in POWER_OFF, or a frame of legal length
built. -/
theorem startFlag_tx_cases {s : State} (h : LinkInv s) :
    (startFlag s).tx = s.tx ∨ (startFlag s).tx = { s.tx with haveFrame := false } ∨
    (s.state ≠ .powerOff ∧ ∃ buf : List Byte, 5 ≤ buf.length ∧ buf.length ≤ 6 + s.params.txMaxData ∧
      (startFlag s).tx = { s.tx with haveFrame := true, buf := buf, len := buf.length }) := by
  unfold startFlag
  split
  · by_cases hoff : s.state = .powerOff
    · exact .inr (.inl (by rw [buildFrame_powerOff hoff]))
    · obtain ⟨hshort, hlong⟩ := chooseBody_length (flipBib_linkInv h).queue
      rw [(flipBib_sendFrame s).params] at hlong
      have htx : (chooseBody (flipBib s)).2.tx = s.tx := by
        have hflip : (flipBib s).tx = s.tx := by rw [flipBib_eq]
        rcases chooseBody_cases (flipBib s) with ⟨st, -, he⟩ | ⟨-, he, -⟩ | ⟨-, pre, e, post, -, -, -, -, he⟩ <;>
          rw [he] <;> exact hflip
      refine .inr (.inr ⟨hoff, (chooseBody (flipBib s)).1 ++ crcBytes s.params.crc16 (chooseBody (flipBib s)).1, ?_⟩)
      simp only [buildFrame, if_neg hoff, htx, crcBytes, List.length_append, List.length_cons, List.length_nil]
      exact ⟨by omega, by omega, trivial⟩
  · exact .inl rfl

theorem TxInv.of_same {s t : State} (h : TxInv s) (htx : t.tx = s.tx) (hparams : t.params = s.params)
    (hstate : s.state ≠ .powerOff → t.state ≠ .powerOff) : TxInv t where
  length := htx ▸ h.length
  longest := by rw [htx, hparams]; exact h.longest
  frame := fun hf => (h.frame (htx ▸ hf)).imp (fun hlen => htx ▸ hlen) hstate
  ones := htx ▸ h.ones
  data := htx ▸ h.data

/-- Outside the DATA phase a frame may be built or not (41_framer_tx.md R242, R251). -/
theorem startFlag_txInv {s : State} (hlink : LinkInv s) (h : TxInv s) (hflag : s.tx.phase = .flag) :
    TxInv (startFlag s) := by
  have hframe := startFlag_sendFrame s
  have hnot : ∀ {p : Prop}, s.tx.phase = .data → p := fun hdata => absurd (hflag.symm.trans hdata) nofun
  rcases startFlag_tx_cases hlink with he | he | ⟨hoff, buf, hshort, hlong, he⟩
  · exact h.of_same he hframe.params (hframe.state ▸ id)
  · constructor <;> rw [he]
    · exact h.length
    · rw [hframe.params]; exact h.longest
    · nofun
    · exact h.ones
    · exact hnot
  · constructor <;> rw [he]
    · rw [hframe.params]; exact hlong
    · rw [hframe.state]; exact fun _ => ⟨hshort, hoff⟩
    · exact h.ones
    · exact hnot

/-- The last bit of a flag opens the frame built at its first bit (41_framer_tx.md R240). -/
theorem advanceFlag_txInv {s : State} (h : TxInv s) (hflag : s.tx.phase = .flag) :
    TxInv { s with tx := advanceFlag s.tx } := by
  unfold advanceFlag
  split
  · next hlast =>
    obtain ⟨hlen, -⟩ := h.frame hlast.2
    exact
      { length := h.length
        longest := h.longest
        frame := h.frame
        ones := Nat.zero_le 5
        data := fun _ => ⟨hlast.2, hlast.1, Nat.zero_le _, fun hend => by dsimp only at hend; omega⟩ }
  · exact { h with data := fun hdata => absurd (hflag.symm.trans hdata) nofun }

/-- A bit of the DATA phase: the position moves at a frame bit, and the phase ends after the last one (41_framer_tx.md
R240, R249). -/
theorem dataBit_txInv {s : State} (h : TxInv s) (hdata : s.tx.phase = .data) :
    TxInv { s with tx := endOfFrame (countDataBit s.tx) } := by
  obtain ⟨hframe, hidx, hpos, hend⟩ := h.data hdata
  have hones := h.ones
  unfold endOfFrame countDataBit Config.stuffRun
  by_cases hstuff : s.tx.ones = 5
  · rw [if_pos hstuff]
    split
    · exact { h with ones := Nat.zero_le 5, data := nofun }
    · next hnot =>
      exact { h with
        ones := Nat.zero_le 5
        data := fun _ => ⟨hframe, hidx, hpos, fun hlast => absurd ⟨hlast, nofun⟩ hnot⟩ }
  · rw [if_neg hstuff]
    have hcount : (if frameBit s.tx.buf s.tx.pos then s.tx.ones + 1 else 0) ≤ 5 := by split <;> omega
    generalize (if frameBit s.tx.buf s.tx.pos then s.tx.ones + 1 else 0) = ones at hcount ⊢
    split
    · exact { h with ones := hcount, data := nofun }
    · next hnot =>
      refine { h with ones := hcount, data := fun _ => ⟨hframe, hidx, ?_, fun hlast => ?_⟩ }
      · have hmore : s.tx.pos ≠ 8 * s.tx.len := fun hlast => hstuff (hend hlast)
        dsimp only
        omega
      · exact by_contra fun hne => hnot ⟨hlast, hne⟩

theorem sendBit_txInv {s : State} (hlink : LinkInv s) (h : TxInv s) : TxInv (sendBit s).2 := by
  unfold sendBit
  split
  · next hflag =>
    have hphase : (startFlag s).tx.phase = .flag := by
      rcases startFlag_tx_cases hlink with he | he | ⟨-, buf, -, -, he⟩ <;> rw [he] <;> exact hflag
    exact advanceFlag_txInv (startFlag_txInv hlink h hflag) hphase
  · next hdata => exact dataBit_txInv h hdata

end Sys2Proof.Machine
end

section
/-! SUPPORT. The receiver keeps the invariant (42_framer_rx.md), and with it every operation and every step; then the
statements about the state record. -/

namespace Sys2Proof.Machine

/-! ### RX_BIT (42_framer_rx.md R270) -/

theorem RxInv.of_same {s t : State} (h : RxInv s) (hrx : t.rx = s.rx) (hparams : t.params = s.params) : RxInv t where
  stored := hrx ▸ h.stored
  longest := by rw [hrx, hparams]; exact h.longest
  hunting := hrx ▸ h.hunting
  count := hrx ▸ h.count
  idle := hrx ▸ h.idle
  run := by rw [hrx, hparams]; exact h.run

/-- No event reaches the receiver (R289). -/
theorem raise_rxInv {s : State} (h : RxInv s) (ev : Event) (a : EventArg) : RxInv (raise ev a s) :=
  h.of_same (raise_rx ev a s) (raise_params ev a s)

/-- The run of empty frames may take any value up to its limit (R288). -/
theorem RxInv.with_flagRun {s : State} (h : RxInv s) {run : Nat} (hrun : run ≤ max s.params.flagLimit 1) :
    RxInv { s with rx := { s.rx with flagRun := run } } := { h with run := hrun }

/-- The octet count may restart at any time (R272, R273). -/
theorem RxInv.with_restartedCount {s : State} (h : RxInv s) : RxInv { s with rx := { s.rx with ocBits := 0 } } :=
  { h with count := Nat.zero_le _, idle := fun _ => rfl }

/-- The receiver hunts for a flag with an empty store (R275, R277). -/
theorem RxInv.to_hunting {s : State} (h : RxInv s) :
    RxInv { s with rx := { clearStore s.rx with inFrame := false, flagRun := 0 } } :=
  { h with stored := rfl, longest := Nat.zero_le _, hunting := fun _ => rfl, run := Nat.zero_le _ }

/-- The octet count stays below its window (R272). -/
theorem countOctetBit_rxInv {s : State} (h : RxInv s) : RxInv (countOctetBit s) := by
  have hcount := h.count
  rcases countOctetBit_cases s with ⟨-, he⟩ | ⟨hactive, hmore, he⟩ | ⟨hactive, -, he⟩ <;> rw [he]
  · exact h
  · exact
      { h with
        count := by dsimp only; omega
        idle := fun hidle => absurd (hactive.symm.trans hidle) nofun }
  · exact raise_rxInv h.with_restartedCount _ _

/-- The run of empty frames stops at its limit (R274, R288). -/
theorem closeEmptyFrame_rxInv {s : State} (h : RxInv s) : RxInv (closeEmptyFrame s) := by
  unfold closeEmptyFrame
  split
  · next hrun =>
    have hcounted := h.with_flagRun hrun
    dsimp only
    split
    · exact raise_rxInv hcounted _ _
    · exact hcounted
  · exact h

theorem frameEvent_rxInv {s : State} (h : RxInv s) (f : List Byte) (n : Nat) : RxInv (frameEvent f n s) := by
  unfold frameEvent
  split
  · exact raise_rxInv h _ _
  · split
    · split
      · exact raise_rxInv h _ _
      · exact h
    · exact raise_rxInv h _ _

/-- A good frame ends octet counting, with its count at 0 (R285). -/
theorem goodFrame_rxInv {s : State} (h : RxInv s) (f : List Byte) (n : Nat) : RxInv (goodFrame f n s) := by
  have hended : RxInv { s with rx := { s.rx with ocActive := false, ocBits := 0 } } :=
    { h with count := Nat.zero_le _, idle := fun _ => rfl }
  exact frameEvent_rxInv (raise_rxInv hended _ _) f n

theorem closeFrame_rxInv {s : State} (h : RxInv s) : RxInv (closeFrame s) := by
  unfold closeFrame closeFilledFrame
  split
  · exact closeEmptyFrame_rxInv h
  · have hrestarted := h.with_flagRun (Nat.zero_le _)
    dsimp only
    split
    · exact goodFrame_rxInv hrestarted _ _
    · exact raise_rxInv hrestarted _ _

/-- A flag opens a frame with an empty store (R273). -/
theorem flagReceived_rxInv {s : State} (h : RxInv s) : RxInv (flagReceived s) := by
  have hrestarted : RxInv (restartOctetCount s) := by
    unfold restartOctetCount
    split
    · exact h.with_restartedCount
    · exact h
  have hclosed : RxInv (closeOpenFrame (restartOctetCount s)) := by
    unfold closeOpenFrame
    split
    · exact closeFrame_rxInv hrestarted
    · exact hrestarted
  exact { hclosed with stored := rfl, longest := Nat.zero_le _, hunting := nofun }

/-- An abort starts octet counting with its count at 0 (R275). -/
theorem abortReceived_rxInv {s : State} (h : RxInv s) : RxInv (abortReceived s) := by
  have hhunting := h.to_hunting
  unfold abortReceived
  dsimp only
  split
  · exact hhunting
  · exact { hhunting with count := Nat.zero_le _, idle := nofun }

/-- A bit is stored while there is room, and a frame without room is dropped (R277). -/
theorem storeBit_rxInv {s : State} (h : RxInv s) (b : Bool) : RxInv (storeBit b s) := by
  unfold storeBit rxBitLimit
  split
  · next hframe =>
    split
    · exact raise_rxInv h.to_hunting _ _
    · next hroom =>
      have hlongest := h.longest
      exact
        { h with
          stored := by simp [h.stored]
          longest := by dsimp only; omega
          hunting := fun hhunting => absurd (hframe.symm.trans hhunting) nofun }
  · exact h

theorem receiveBit_rxInv {s : State} (h : RxInv s) (b : Bool) : RxInv (receiveBit b s) := by
  have hshifted : RxInv (shiftIn b s) := { h with }
  have hcounted := countOctetBit_rxInv hshifted
  unfold receiveBit classifyBit
  split
  · exact flagReceived_rxInv hcounted
  · split
    · exact abortReceived_rxInv hcounted
    · split
      · exact hcounted
      · exact storeBit_rxInv hcounted b

/-! ### Every operation and every step -/

theorem raise_txInv {s : State} (h : TxInv s) (ev : Event) (a : EventArg) : TxInv (raise ev a s) :=
  h.of_same (raise_tx ev a s) (raise_params ev a s) fun hoff => raise_ne_powerOff hoff ev a

/-- ENQUEUE appends an entry that fits the queue, in IN_SERVICE (43_sequencing.md R311, R312). -/
theorem appendEntry_linkInv {s : State} (h : LinkInv s) (hs : s.state = .inService)
    (hroom : s.queue.length < s.params.queueDepth) (sio : Byte) {data : List Byte} (hdata : 2 ≤ data.length) :
    LinkInv (appendEntry sio (data.take s.params.txMaxData) s) := by
  have hwf := h.params
  simp only [Config.Params.wf, Bool.and_eq_true, decide_eq_true_eq] at hwf
  obtain ⟨⟨-, hmax⟩, -⟩ := hwf
  have hshort : 2 ≤ (data.take s.params.txMaxData).length := by rw [List.length_take]; omega
  have hlong : (data.take s.params.txMaxData).length ≤ s.params.txMaxData := by rw [List.length_take]; omega
  exact h.with_sequence (by rw [hs]; rfl) (h.queue.appendEntry hs hroom sio hshort hlong) s.txSeq s.rxSeq s.fib s.bib
    s.txNack

/-- Every operation keeps the invariant. -/
theorem OpEffect.inv {s t : State} (h : s.Inv) (e : OpEffect s t) : t.Inv := by
  obtain ⟨hlink, htx, hrx⟩ := (inv_iff s).1 h
  refine (inv_iff t).2 ?_
  cases e with
  | unchanged => exact ⟨hlink, htx, hrx⟩
  | received b =>
    obtain ⟨hlink', htx'⟩ : LinkInv (receiveBit b s) ∧ TxInv (receiveBit b s) :=
      receiveBit_induction (P := fun u => LinkInv u ∧ TxInv u)
        (fun u r hu => ⟨hu.1.with_ports u.tx r u.indOut u.cmds u.responses, hu.2.of_same rfl rfl id⟩)
        (fun ev a u hu => ⟨raise_linkInv hu.1 ev a, raise_txInv hu.2 ev a⟩) b ⟨hlink, htx⟩
    exact ⟨hlink', htx', receiveBit_rxInv hrx b⟩
  | sent =>
    have hframe := sendBit_sendFrame s
    exact ⟨sendBit_linkInv hlink, sendBit_txInv hlink htx, hrx.of_same hframe.rx hframe.params⟩
  | ticked =>
    have hframe := tickTimers_frame s
    exact ⟨tickTimers_linkInv hlink, htx.of_same hframe.tx hframe.params tickTimers_ne_powerOff,
      hrx.of_same hframe.rx hframe.params⟩
  | raised ev a => exact ⟨raise_linkInv hlink ev a, raise_txInv htx ev a, raise_rxInv hrx ev a⟩
  | enqueued hs hroom sio data hdata =>
    exact ⟨appendEntry_linkInv hlink hs hroom sio hdata, htx.of_same rfl rfl id, hrx.of_same rfl rfl⟩

/-- The invariant does not read the two ports to the host. -/
theorem State.Inv.with_ports {s : State} (h : s.Inv) (cs : List Command) (rs : List Response) :
    (s.withPorts cs rs).Inv := by
  obtain ⟨hlink, htx, hrx⟩ := (inv_iff s).1 h
  exact (inv_iff _).2
    ⟨hlink.with_ports s.tx s.rx s.indOut cs rs, htx.of_same rfl rfl id, hrx.of_same rfl rfl⟩

theorem step_inv {s t : State} (h : s.Inv) (hstep : step s = .next t) : t.Inv := by
  obtain ⟨cs, r, u, hu, he⟩ := step_effect s
  obtain rfl : respond r u = t := Host.Outcome.next.inj (he.symm.trans hstep)
  exact (hu.inv (h.with_ports cs s.responses)).with_ports u.cmds (u.responses ++ [r])

/-- No operation takes an indication back (10_state.md R58). -/
theorem OpEffect.indOut_prefix {s t : State} (e : OpEffect s t) : s.indOut <+: t.indOut := by
  cases e with
  | unchanged | enqueued => exact List.prefix_refl _
  | received b =>
    exact receiveBit_induction (P := fun u => s.indOut <+: u.indOut) (fun _ _ hu => hu)
      (fun ev a u hu => hu.trans (raise_frame ev a u).indOut) b (List.prefix_refl _)
  | sent => rw [(sendBit_sendFrame s).indOut]
  | ticked => exact (tickTimers_frame s).indOut
  | raised ev a => exact (raise_frame ev a s).indOut

/-- The parameters of the block meet the constraints of 00_scope.md R5. -/
theorem params_wf : Config.params.wf = true := by
  simp [Config.params, Config.Params.wf, Config.Params.constrained, Config.PerRate.wf, Config.PerRate.atLeastOne]

/-! ### The statements -/

/-- Settles O7, by the reset table's own values. -/
theorem resetValues : Obligations.ResetValues := by
  have htimers : ∀ n, getTimer n State.reset = ⟨false, 0⟩ := fun n => by cases n <;> rfl
  exact ⟨rfl, rfl, rfl, rfl, rfl, rfl, rfl, rfl, rfl, rfl, rfl, rfl, rfl, rfl, rfl, rfl, rfl, rfl, htimers, rfl, rfl, rfl,
    rfl, rfl⟩

/-- Settles O8: POWER_OFF runs no timer and holds no traffic, and both directions of the framer are idle. -/
theorem resetMeetsInvariant : Obligations.ResetMeetsInvariant where
  params := params_wf
  queue := .of_empty rfl
  timers := timerInv_of_fresh params_wf fun n => by cases n <;> rfl
  lssu := rfl
  outage := rfl
  counters := by constructor <;> simp [State.reset]
  sequence := fun _ => ⟨rfl, rfl, rfl, rfl, rfl, rfl⟩
  tx := by constructor <;> simp [State.reset, TxState.reset]
  rx := by constructor <;> simp [State.reset, RxState.reset]

/-- Settles O9, by the inversion of the step into an operation's effect, and the parts of the invariant under each. -/
theorem stepKeepsInvariant : Obligations.StepKeepsInvariant := fun _ _ => step_inv

/-- Settles O10: the invariant names the one timer of the state. -/
theorem atMostOneTimerArmed : Obligations.AtMostOneTimerArmed := by
  intro s t h hstep
  have htimers := (step_inv h hstep).timers
  refine ⟨fun n m hn hm => ?_, htimers.t2State.1, htimers.t3State.1, htimers.t4State.1, htimers.t1State.1⟩
  rw [htimers.armed_iff] at hn hm
  exact Option.some.inj (hn.symm.trans hm)

/-- Settles O11, by the queue's part of the invariant. -/
theorem queueNumbersConsecutive : Obligations.QueueNumbersConsecutive := by
  intro s t h hstep
  have hqueue := (step_inv h hstep).queue
  refine ⟨fun pre e e' post hq => ?_, fun pre e hq => hqueue.tail e (by simp [hq])⟩
  have hconsecutive := hqueue.consecutive
  rw [hq] at hconsecutive
  exact hconsecutive.next_seq

/-- Settles O13, by the inversion of the step into an operation's effect. -/
theorem indicationsOnlyAppended : Obligations.IndicationsOnlyAppended := by
  intro s t hstep
  obtain ⟨cs, r, u, hu, he⟩ := step_effect s
  obtain rfl : respond r u = t := Host.Outcome.next.inj (he.symm.trans hstep)
  exact hu.indOut_prefix

end Sys2Proof.Machine
end

section
/-! SUPPORT. The signal unit built at the first bit of a flag (41_framer_tx.md R242, R243): the equations of Select, of
the choice of the frame and of TX_BIT, each under its own conditions; then the statements about the frames built. -/

namespace Sys2Proof.Machine

/-! ### Select (43_sequencing.md R316, R317) -/

theorem takeSeq_append {want : Seq} {pre : List Entry} (hpre : ∀ x ∈ pre, x.seq ≠ want) {e : Entry}
    (he : e.seq = want) (post : List Entry) :
    takeSeq want (pre ++ e :: post) =
      some ({ e with transmitted := true }, pre ++ { e with transmitted := true } :: post) := by
  induction pre with
  | nil => simp [takeSeq, he]
  | cons x pre ih =>
    obtain ⟨hx, htail⟩ := List.forall_mem_cons.mp hpre
    simp [takeSeq, hx, ih htail]

theorem select_of_due {s : State} {pre post : List Entry} {e : Entry} (hqueue : s.queue = pre ++ e :: post)
    (hlen : s.queue.length < 128) (hpre : ∀ x ∈ pre, x.seq ≠ s.txSeq + 1) (he : e.seq = s.txSeq + 1) :
    select s = (some { e with transmitted := true },
      { s with queue := pre ++ { e with transmitted := true } :: post, txSeq := e.seq }) := by
  have hshort : ¬Config.congestionLimit ≤ s.queue.length := Nat.not_le.mpr hlen
  rw [select, if_neg hshort, hqueue, takeSeq_append hpre he]

theorem select_of_none_due {s : State} (hnone : 128 ≤ s.queue.length ∨ ∀ e ∈ s.queue, e.seq ≠ s.txSeq + 1) :
    select s = (none, s) := by
  rcases select_cases s with ⟨hselect, -⟩ | ⟨pre, e, post, hlen, hqueue, -, he, -⟩
  · exact hselect
  · rcases hnone with hfull | hne
    · omega
    · exact absurd he (hne e (by simp [hqueue]))

/-! ### The choice of the frame (41_framer_tx.md R242) -/

theorem chooseBody_of_lssu {s : State} {status : LssuStatus} (hlssu : s.txLssu = some status) :
    chooseBody s = (lssuBody s status, s) := by
  simp only [chooseBody, hlssu]

theorem chooseBody_of_select_none {s : State} (hlssu : s.txLssu = none) (hselect : select s = (none, s)) :
    chooseBody s = (fisuBody s, s) := by
  simp only [chooseBody, hlssu, hselect]

theorem chooseBody_of_select_some {s t : State} {m : Entry} (hlssu : s.txLssu = none)
    (hselect : select s = (some m, t)) : chooseBody s = (msuBody s m, t) := by
  simp only [chooseBody, hlssu, hselect]

/-! ### TX_BIT at the first bit of a flag (41_framer_tx.md R240, R243) -/

theorem flipBib_eq_xor (s : State) : flipBib s = { s with bib := s.bib ^^ s.txNack, txNack := false } := by
  rw [flipBib_eq]
  cases s.txNack <;> simp

theorem startFlag_of_chooseBody {s t : State} (hidx : s.tx.flagIdx = 0) (hon : s.state ≠ .powerOff) {body : List Byte}
    (hbody : chooseBody (flipBib s) = (body, t)) :
    startFlag s = { t with
      tx := { t.tx with
        haveFrame := true, buf := body ++ crcBytes s.params.crc16 body, len := body.length + 2 } } := by
  rw [startFlag, if_pos hidx, buildFrame, if_neg hon, hbody]

theorem advanceFlag_of_first {t : TxState} (ht : t.flagIdx = 0) : advanceFlag t = { t with flagIdx := 1 } := by
  simp [advanceFlag, ht]

theorem exec_txBit_of_startFlag {s t : State} (hflag : s.tx.phase = .flag) (hidx : s.tx.flagIdx = 0)
    (hstart : startFlag s = t) (ht : t.tx.flagIdx = 0) :
    exec .txBit s = .next (respond (.bit false) { t with tx := { t.tx with flagIdx := 1 } }) := by
  have hexec : exec .txBit s = .next (respond (.bit (sendBit s).1) (sendBit s).2) := rfl
  rw [hexec, sendBit, hflag]
  simp only [hstart, advanceFlag_of_first ht, hidx]
  rfl

/-- The frame is chosen with BIB already inverted; besides it the choice writes the queue and `tx_seq` only. -/
theorem exec_txBit_startsFrame {s : State} (hflag : s.tx.phase = .flag) (hidx : s.tx.flagIdx = 0)
    (hon : s.state ≠ .powerOff) {body : List Byte} {q : List Entry} {n : Seq}
    (hbody : chooseBody (flipBib s) = (body, flipBib { s with queue := q, txSeq := n })) :
    exec .txBit s = .next (frameStarted { s with queue := q, txSeq := n } body) := by
  rw [flipBib_eq_xor { s with queue := q, txSeq := n }] at hbody
  exact exec_txBit_of_startFlag hflag hidx (startFlag_of_chooseBody hidx hon hbody) hidx

/-! ### The statements -/

/-- Settles O45: Select answers the first entry at `tx_seq + 1`, whether BIB was inverted before or not. -/
theorem txBitBuildsMsu : Obligations.TxBitBuildsMsu := by
  intro s pre post e hflag hidx hon hlssu hqueue hlen hpre he
  have hselect : select (flipBib s) = (some { e with transmitted := true },
      flipBib { s with queue := pre ++ { e with transmitted := true } :: post, txSeq := e.seq }) := by
    simp only [flipBib_eq]
    exact select_of_due hqueue hlen hpre he
  refine exec_txBit_startsFrame hflag hidx hon ?_
  rw [chooseBody_of_select_some (by simpa using hlssu) hselect, flipBib_eq_xor s]
  rfl

/-- Settles O43: an LSSU that is due is chosen first. -/
theorem txBitBuildsLssu : Obligations.TxBitBuildsLssu := by
  intro s status hflag hidx hon hlssu
  refine exec_txBit_startsFrame (q := s.queue) (n := s.txSeq) hflag hidx hon ?_
  rw [chooseBody_of_lssu (status := status) (by simpa using hlssu), flipBib_eq_xor s]
  rfl

/-- Settles O44: Select answers none and leaves the state as it is. -/
theorem txBitBuildsFisu : Obligations.TxBitBuildsFisu := by
  intro s hflag hidx hon hlssu hnone
  have hselect : select (flipBib s) = (none, flipBib s) := select_of_none_due (by simpa using hnone)
  refine exec_txBit_startsFrame (q := s.queue) (n := s.txSeq) hflag hidx hon ?_
  rw [chooseBody_of_select_none (by simpa using hlssu) hselect, flipBib_eq_xor s]
  rfl

end Sys2Proof.Machine
end

section
/-! SUPPORT. The command word as its two fields, and the decoder and encoder as inverses (30_encoding.md R100 to R105);
then the statements about them. -/

namespace Sys2Proof.Machine

/-! ### The fields of a command word, read as numbers (30_encoding.md R100, R101) -/

theorem opField_toNat (w : CommandWord) : (opField w).toNat = w.toNat / 4096 := by
  have hw := w.isLt
  rw [opField, BitVec.extractLsb'_toNat, Nat.shiftRight_eq_div_pow]
  omega

theorem operandField_toNat (w : CommandWord) : (operandField w).toNat = w.toNat % 4096 := by
  simp [operandField]

/-- The command word of two fields. -/
def wordOf (op : BitVec 4) (operand : BitVec 12) : CommandWord := op ++ operand

theorem wordOf_toNat (op : BitVec 4) (x : BitVec 12) : (wordOf op x).toNat = 4096 * op.toNat + x.toNat := by
  rw [wordOf, BitVec.toNat_append, ← Nat.shiftLeft_add_eq_or_of_lt x.isLt, Nat.shiftLeft_eq, Nat.mul_comm]

@[simp] theorem opField_wordOf (op : BitVec 4) (x : BitVec 12) : opField (wordOf op x) = op := by
  apply BitVec.eq_of_toNat_eq
  rw [opField_toNat, wordOf_toNat]
  omega

@[simp] theorem operandField_wordOf (op : BitVec 4) (x : BitVec 12) : operandField (wordOf op x) = x := by
  apply BitVec.eq_of_toNat_eq
  rw [operandField_toNat, wordOf_toNat]
  omega

/-- Every command word is the word of its fields. -/
theorem wordOf_fields (w : CommandWord) : wordOf (opField w) (operandField w) = w := by
  apply BitVec.eq_of_toNat_eq
  rw [wordOf_toNat, opField_toNat, operandField_toNat]
  omega

theorem bitField_eq (w : CommandWord) : bitField w = (operandField w).getLsbD 0 := by
  simp [bitField, operandField]

theorem eventField_eq (w : CommandWord) : eventField w = (operandField w).setWidth 5 := by
  apply BitVec.eq_of_toNat_eq
  simp [eventField, operandField]

theorem sioField_eq (w : CommandWord) : sioField w = (operandField w).setWidth 8 := by
  apply BitVec.eq_of_toNat_eq
  simp [sioField, operandField]

/-! ### The operand bits that may be 1 (30_encoding.md R101, R103) -/

/-- How many low operand bits an operation may use; R101 requires those above them to be 0. -/
def operandBits (op : BitVec 4) : Nat :=
  match op.toNat with
  | 0 | 2 | 3 => 0
  | 1 => 1
  | 4 => 5
  | 5 => 8
  | _ => 12

theorem operandBits_of_reserved {op : BitVec 4} (hop : 6 ≤ op.toNat) : operandBits op = 12 := by
  unfold operandBits
  split <;> omega

/-- The mask of R101 holds exactly the operand bits above those an operation may use. -/
theorem reservedMask_getLsbD : ∀ (op : BitVec 4), ∀ i < 16,
    (reservedMask op).getLsbD i = decide (operandBits op ≤ i ∧ i < 12) := by
  decide

/-- A word passes the decoder's mask exactly when its operand fits the bits its operation may use. -/
theorem reservedMask_eq_zero_iff (w : CommandWord) :
    w &&& reservedMask (opField w) = 0 ↔ (operandField w).toNat < 2 ^ operandBits (opField w) := by
  have hoperand : ∀ i < 12, (operandField w).toNat.testBit i = w.getLsbD i := fun i hi => by
    rw [operandField_toNat, show 4096 = 2 ^ 12 from rfl, Nat.testBit_mod_two_pow]
    simp [hi, BitVec.getLsbD]
  constructor
  · intro hmask
    refine Nat.lt_pow_two_of_testBit _ fun i hi => ?_
    by_cases h12 : i < 12
    · have hbit := congrArg (BitVec.getLsbD · i) hmask
      have hset := reservedMask_getLsbD (opField w) i (by omega)
      simpa [hset, hi, h12, hoperand i h12] using hbit
    · exact Nat.testBit_lt_two_pow ((operandField w).isLt.trans_le (Nat.pow_le_pow_right (by decide) (by omega)))
  · intro hfits
    refine BitVec.eq_of_getLsbD_eq fun i hi => ?_
    have hset := reservedMask_getLsbD (opField w) i hi
    rw [BitVec.getLsbD_and, hset, BitVec.ofNat_eq_ofNat, BitVec.getLsbD_zero, Bool.and_eq_false_iff,
      or_iff_not_imp_right]
    intro hmasked
    obtain ⟨hi, h12⟩ : operandBits (opField w) ≤ i ∧ i < 12 := by simpa using hmasked
    rw [← hoperand i h12]
    exact Nat.testBit_lt_two_pow (hfits.trans_le (Nat.pow_le_pow_right (by decide) hi))

/-- R103's ILLEGAL words: the reserved operations, and operands with a 1 above the bits their operation may use. -/
theorem illegalCommandWord_iff (w : CommandWord) :
    illegalCommandWord w = true ↔ 6 ≤ (opField w).toNat ∨ 2 ^ operandBits (opField w) ≤ (operandField w).toNat := by
  simp only [illegalCommandWord, operandBits, opField_toNat, operandField_toNat]
  generalize w.toNat / 4096 = op
  split
  case h_7 => exact iff_of_true rfl (.inl (by grind))
  all_goals simp <;> omega

/-! ### The decoder on a word of two fields (30_encoding.md R101, R103, R104) -/

/-- The decoder answers the operation of the fields, when no reserved operand bit is 1. -/
theorem decode_eq_ok_iff (c : Command) (i : Instr) :
    decode c = .ok i ↔ (operandField c.word).toNat < 2 ^ operandBits (opField c.word) ∧ decodeOp c = i := by
  rw [← reservedMask_eq_zero_iff, decode]
  split
  · next hmask => simp [hmask]
  · next hmask => exact iff_of_false nofun fun h => hmask h.1

/-- A word the decoder refuses is one of R103's ILLEGAL words. -/
theorem illegal_of_decode_error {c : Command} {e : DecodeError} (h : decode c = .error e) :
    illegalCommandWord c.word = true := by
  refine (illegalCommandWord_iff c.word).2 (.inr (not_lt.1 fun hfits => ?_))
  cases h.symm.trans ((decode_eq_ok_iff c _).2 ⟨hfits, rfl⟩)

/-! ### The encoder's words (30_encoding.md R101, R104) -/

/-- The table writes an operand of at most 12 bits into a word whose operand is 0. -/
theorem wordOf_or_setWidth (op : BitVec 4) {n : Nat} (hn : n ≤ 12) (x : BitVec n) :
    wordOf op 0 ||| x.setWidth 16 = wordOf op (x.setWidth 12) := by
  have hx : x.toNat < 4096 := x.isLt.trans_le (Nat.pow_le_pow_right (by decide) hn)
  apply BitVec.eq_of_toNat_eq
  rw [BitVec.toNat_or, wordOf_toNat, wordOf_toNat, BitVec.toNat_setWidth, BitVec.toNat_setWidth,
    Nat.mod_eq_of_lt (show x.toNat < 2 ^ 16 by omega), Nat.mod_eq_of_lt hx]
  exact (Nat.two_pow_add_eq_or_of_lt (i := 12) hx op.toNat).symm

theorem encodeWord_rxBit (b : Bool) : encodeWord (.rxBit b) = wordOf 1 ((BitVec.ofBool b).setWidth 12) :=
  wordOf_or_setWidth 1 (by decide) _

theorem encodeWord_enqueue (sio : Byte) (data : List Byte) :
    encodeWord (.enqueue sio data) = wordOf 5 (sio.setWidth 12) :=
  wordOf_or_setWidth 5 (by decide) sio

/-- The event code stands in the operand, bits 4:0 (R104). -/
theorem encodeWord_decodeEvent (arg : EventArg) (ev : BitVec 5) :
    encodeWord (decodeEvent arg ev) = wordOf 4 (ev.setWidth 12) := by
  have hcode : (encodeWord (decodeEvent arg ev)).toNat = 0x4000 + ev.toNat := by
    have hev := ev.isLt
    unfold decodeEvent
    generalize ev.toNat = n at *
    interval_cases n <;> rfl
  apply BitVec.eq_of_toNat_eq
  have hev := ev.isLt
  rw [hcode, wordOf_toNat, BitVec.toNat_setWidth, Nat.mod_eq_of_lt (by omega)]
  rfl

/-! ### The reserved operations (30_encoding.md R101, R103) -/

/-- The operation of a reserved `op`, 6 to 15. -/
def reservedInstr (op : BitVec 4) (x : BitVec 12) : Instr :=
  match op.toNat with
  | 6 => .reservedOp6 x
  | 7 => .reservedOp7 x
  | 8 => .reservedOp8 x
  | 9 => .reservedOp9 x
  | 10 => .reservedOpA x
  | 11 => .reservedOpB x
  | 12 => .reservedOpC x
  | 13 => .reservedOpD x
  | 14 => .reservedOpE x
  | _ => .reservedOpF x

theorem reserved_op_mem : ∀ op : BitVec 4, 6 ≤ op.toNat →
    op ∈ ([6, 7, 8, 9, 10, 11, 12, 13, 14, 15] : List (BitVec 4)) := by
  decide

theorem decodeOp_of_reserved {c : Command} (h : 6 ≤ (opField c.word).toNat) :
    decodeOp c = reservedInstr (opField c.word) (operandField c.word) := by
  unfold decodeOp reservedInstr
  split <;> simp_all

theorem encode_reservedInstr {op : BitVec 4} (hop : 6 ≤ op.toNat) (x : BitVec 12) :
    encode (reservedInstr op x) = .ofWord (wordOf op x) := by
  have hmem := reserved_op_mem op hop
  simp only [List.mem_cons, List.not_mem_nil, or_false] at hmem
  rcases hmem with rfl | rfl | rfl | rfl | rfl | rfl | rfl | rfl | rfl | rfl <;> rfl

theorem decode_encode_reservedInstr {op : BitVec 4} (hop : 6 ≤ op.toNat) (x : BitVec 12) :
    decode (encode (reservedInstr op x)) = .ok (reservedInstr op x) := by
  have hfits : x.toNat < 2 ^ operandBits op := by rw [operandBits_of_reserved hop]; exact x.isLt
  rw [encode_reservedInstr hop, decode_eq_ok_iff]
  exact ⟨by simpa [Command.ofWord] using hfits, by rw [decodeOp_of_reserved] <;> simp [Command.ofWord, hop]⟩

/-! ### Decoder and encoder are inverses -/

/-- An operand written from `n` bits fits them. -/
theorem setWidth_toNat_lt {n : Nat} (x : BitVec n) : (x.setWidth 12).toNat < 2 ^ n := by
  rw [BitVec.toNat_setWidth]
  exact (Nat.mod_le _ _).trans_lt x.isLt

/-- A word whose operand fits `n` bits is written from them. -/
theorem exists_operand_of_fits {w : CommandWord} {op : BitVec 4} {n : Nat} (hop : opField w = op)
    (hfits : (operandField w).toNat < 2 ^ n) : ∃ x : BitVec n, w = wordOf op (x.setWidth 12) := by
  have hoperand : ((operandField w).setWidth n).setWidth 12 = operandField w := by
    apply BitVec.eq_of_toNat_eq
    rw [BitVec.toNat_setWidth, BitVec.toNat_setWidth, Nat.mod_eq_of_lt hfits, Nat.mod_eq_of_lt (operandField w).isLt]
  exact ⟨(operandField w).setWidth n, by rw [hoperand, ← hop, wordOf_fields]⟩

theorem decodeOp_nop (x : BitVec 12) (arg : EventArg) (data : List Byte) :
    decodeOp ⟨wordOf 0 x, arg, data⟩ = .nop := by
  simp [decodeOp]

theorem decodeOp_txBit (x : BitVec 12) (arg : EventArg) (data : List Byte) :
    decodeOp ⟨wordOf 2 x, arg, data⟩ = .txBit := by
  simp [decodeOp]

theorem decodeOp_timerTick (x : BitVec 12) (arg : EventArg) (data : List Byte) :
    decodeOp ⟨wordOf 3 x, arg, data⟩ = .timerTick := by
  simp [decodeOp]

theorem decodeOp_rxBit (x : BitVec 1) (arg : EventArg) (data : List Byte) :
    decodeOp ⟨wordOf 1 (x.setWidth 12), arg, data⟩ = .rxBit (x.getLsbD 0) := by
  simp [decodeOp, bitField_eq]

@[simp] theorem decodeOp_event (arg : EventArg) (ev : BitVec 5) (data : List Byte) :
    decodeOp ⟨wordOf 4 (ev.setWidth 12), arg, data⟩ = decodeEvent arg ev := by
  simp [decodeOp, eventField_eq]

@[simp] theorem decodeOp_enqueue (sio : Byte) (arg : EventArg) (data : List Byte) :
    decodeOp ⟨wordOf 5 (sio.setWidth 12), arg, data⟩ = .enqueue sio data := by
  simp [decodeOp, sioField_eq]

theorem decode_event (arg : EventArg) (ev : BitVec 5) (data : List Byte) :
    decode ⟨wordOf 4 (ev.setWidth 12), arg, data⟩ = .ok (decodeEvent arg ev) := by
  rw [decode_eq_ok_iff, opField_wordOf, operandField_wordOf]
  exact ⟨setWidth_toNat_lt ev, decodeOp_event arg ev data⟩

theorem decode_enqueue (sio : Byte) (arg : EventArg) (data : List Byte) :
    decode ⟨wordOf 5 (sio.setWidth 12), arg, data⟩ = .ok (.enqueue sio data) := by
  rw [decode_eq_ok_iff, opField_wordOf, operandField_wordOf]
  exact ⟨setWidth_toNat_lt sio, decodeOp_enqueue sio arg data⟩

theorem decode_encode (i : Instr) : decode (encode i) = .ok i := by
  cases i with
  | rxBit b => cases b <;> rfl
  | eventFisuRx arg => exact decode_event arg 16 []
  | eventMsuRx arg => exact decode_event arg 17 []
  | enqueue sio data =>
    rw [encode, encodeWord_enqueue]
    exact decode_enqueue sio _ data
  | reservedOp6 x => exact decode_encode_reservedInstr (op := 6) (by decide) x
  | reservedOp7 x => exact decode_encode_reservedInstr (op := 7) (by decide) x
  | reservedOp8 x => exact decode_encode_reservedInstr (op := 8) (by decide) x
  | reservedOp9 x => exact decode_encode_reservedInstr (op := 9) (by decide) x
  | reservedOpA x => exact decode_encode_reservedInstr (op := 10) (by decide) x
  | reservedOpB x => exact decode_encode_reservedInstr (op := 11) (by decide) x
  | reservedOpC x => exact decode_encode_reservedInstr (op := 12) (by decide) x
  | reservedOpD x => exact decode_encode_reservedInstr (op := 13) (by decide) x
  | reservedOpE x => exact decode_encode_reservedInstr (op := 14) (by decide) x
  | reservedOpF x => exact decode_encode_reservedInstr (op := 15) (by decide) x
  | _ => rfl

theorem named_op_mem : ∀ op : BitVec 4, op.toNat < 6 → op ∈ ([0, 1, 2, 3, 4, 5] : List (BitVec 4)) := by
  decide

/-- An operand that fits loses no bit on the way through the operation. -/
theorem encodeWord_decodeOp {c : Command} (hfits : (operandField c.word).toNat < 2 ^ operandBits (opField c.word)) :
    encodeWord (decodeOp c) = c.word := by
  rcases Nat.lt_or_ge (opField c.word).toNat 6 with hop | hop
  · obtain ⟨w, arg, data⟩ := c
    have hmem := named_op_mem _ hop
    simp only [List.mem_cons, List.not_mem_nil, or_false] at hmem
    rcases hmem with h | h | h | h | h | h <;> rw [h] at hfits
    · obtain ⟨x, rfl⟩ := exists_operand_of_fits (n := 0) h hfits
      rw [x.eq_nil, decodeOp_nop]
      rfl
    · obtain ⟨x, rfl⟩ := exists_operand_of_fits (n := 1) h hfits
      rw [decodeOp_rxBit, encodeWord_rxBit]
      rcases x.eq_zero_or_eq_one with rfl | rfl <;> rfl
    · obtain ⟨x, rfl⟩ := exists_operand_of_fits (n := 0) h hfits
      rw [x.eq_nil, decodeOp_txBit]
      rfl
    · obtain ⟨x, rfl⟩ := exists_operand_of_fits (n := 0) h hfits
      rw [x.eq_nil, decodeOp_timerTick]
      rfl
    · obtain ⟨ev, rfl⟩ := exists_operand_of_fits (n := 5) h hfits
      rw [decodeOp_event, encodeWord_decodeEvent]
    · obtain ⟨sio, rfl⟩ := exists_operand_of_fits (n := 8) h hfits
      rw [decodeOp_enqueue, encodeWord_enqueue]
  · have hencode := congrArg Command.word (encode_reservedInstr hop (operandField c.word))
    rw [decodeOp_of_reserved hop]
    exact hencode.trans (wordOf_fields c.word)

theorem encodeArg_decodeEvent_empty (ev : BitVec 5) :
    encodeArg (decodeEvent EventArg.empty ev) = EventArg.empty := by
  unfold decodeEvent
  split <;> rfl

theorem encodeData_decodeEvent (arg : EventArg) (ev : BitVec 5) : encodeData (decodeEvent arg ev) = [] := by
  unfold decodeEvent
  split <;> rfl

theorem encodeArg_decodeOp {c : Command} (h : c.wf = true) : encodeArg (decodeOp c) = c.arg := by
  obtain ⟨w, arg, data⟩ := c
  simp only [Command.wf, Command.takesArg, Bool.and_eq_true, Bool.or_eq_true, beq_iff_eq] at h
  obtain ⟨(rfl | rfl) | rfl, -⟩ := h
  · exact congrArg encodeArg (decodeOp_event arg 16 data)
  · exact congrArg encodeArg (decodeOp_event arg 17 data)
  · unfold decodeOp
    split
    case h_5 => exact encodeArg_decodeEvent_empty _
    all_goals rfl

theorem opField_of_takesData {c : Command} (h : c.takesData = true) : opField c.word = 5 := by
  have hop : opField (c.word &&& 0xFF00) = 5 := congrArg opField (beq_iff_eq.1 h)
  rwa [opField, BitVec.extractLsb'_and, show BitVec.extractLsb' 12 4 (0xFF00 : CommandWord) = BitVec.allOnes 4 from rfl,
    BitVec.and_allOnes] at hop

theorem encodeData_decodeOp {c : Command} (h : c.wf = true) : encodeData (decodeOp c) = c.data := by
  obtain ⟨w, arg, data⟩ := c
  simp only [Command.wf, Bool.and_eq_true, Bool.or_eq_true, List.isEmpty_iff] at h
  obtain ⟨-, htakes | rfl⟩ := h
  · simp [decodeOp, opField_of_takesData htakes, encodeData]
  · unfold decodeOp
    split
    case h_5 => exact encodeData_decodeEvent _ _
    all_goals rfl

/-- A word that decodes is the word of the operation it decodes to. -/
theorem encodeWord_of_decode {c : Command} {i : Instr} (h : decode c = .ok i) : encodeWord i = c.word := by
  obtain ⟨hfits, rfl⟩ := (decode_eq_ok_iff c i).1 h
  exact encodeWord_decodeOp hfits

/-! ### The statements -/

/-- Settles O1, by the fields of each operation's word. -/
theorem decodeOfEncode : Obligations.DecodeOfEncode := decode_encode

/-- Settles O2: a word with a fitting operand loses no bit, and the side arguments its word does not take are empty. -/
theorem encodeOfDecode : Obligations.EncodeOfDecode := by
  intro c i hwf h
  obtain ⟨hfits, rfl⟩ := (decode_eq_ok_iff c i).1 h
  rw [encode, encodeWord_decodeOp hfits, encodeArg_decodeOp hwf, encodeData_decodeOp hwf]

/-- Settles O3: the sample words are encodings, and the last has bit 5 set, above the five bits of an event code. -/
theorem sampleWordsDecode : Obligations.SampleWordsDecode :=
  ⟨decode_encode .nop, decode_encode (.rxBit true), decode_encode .txBit, decode_encode .timerTick,
    decode_encode .eventStart, decode_encode (.eventMsuRx ⟨127, true, 0, true, 0x83, [0xAA, 0xBB]⟩),
    decode_encode (.enqueue 0xCD [1, 2]), decode_encode (.reservedOpF 0x123), rfl⟩

end Sys2Proof.Machine
end

section
/-! SUPPORT. What each operation answers, by its command word (30_encoding.md R102, R103, R106); then the statements about
the answers. -/

namespace Sys2Proof.Machine

/-! ### The ILLEGAL words (30_encoding.md R103) -/

theorem exec_reservedInstr {op : BitVec 4} (hop : 6 ≤ op.toNat) (x : BitVec 12) (s : State) :
    exec (reservedInstr op x) s = illegalWord s := by
  have hmem := reserved_op_mem op hop
  simp only [List.mem_cons, List.not_mem_nil, or_false] at hmem
  rcases hmem with rfl | rfl | rfl | rfl | rfl | rfl | rfl | rfl | rfl | rfl <;> rfl

/-- An ILLEGAL word is refused by the decoder, or decodes to a reserved operation. -/
theorem step_of_illegal {s : State} {c : Command} {rest : List Command} (h : s.cmds = c :: rest)
    (hillegal : illegalCommandWord c.word = true) : step s = illegalWord { s with cmds := rest } := by
  cases hd : decode c with
  | error e => exact step_of_decode_error h hd
  | ok i =>
    obtain ⟨hfits, rfl⟩ := (decode_eq_ok_iff c i).1 hd
    have hop := ((illegalCommandWord_iff c.word).1 hillegal).resolve_right (Nat.not_le.2 hfits)
    rw [step_of_decode_ok h hd, decodeOp_of_reserved hop, exec_reservedInstr hop]

/-! ### The kind of an answer (30_encoding.md R106) -/

theorem responseFits_of_illegal {w : CommandWord} (h : illegalCommandWord w = true) : responseFits w .illegal := by
  rw [responseFits, if_pos h]

/-- A 1 more in an operand leaves a reserved `op` reserved. -/
theorem illegal_or_operand {v : CommandWord} (hv : 0x6000 ≤ v.toNat) (operand : CommandWord) :
    illegalCommandWord (v ||| operand) = true := by
  have hle : v.toNat ≤ (v ||| operand).toNat := by rw [BitVec.toNat_or]; exact Nat.left_le_or
  refine (illegalCommandWord_iff _).2 (.inl ?_)
  rw [opField_toNat]
  omega

theorem responseFits_enqueue (sio : Byte) (data : List Byte) (code : EnqCode) :
    responseFits (encodeWord (.enqueue sio data)) (.enq code) := by
  have hsio : (sio.setWidth 12).toNat < 2 ^ 8 := setWidth_toNat_lt sio
  have hlegal : ¬illegalCommandWord (wordOf 5 (sio.setWidth 12)) = true := by
    rw [illegalCommandWord_iff, opField_wordOf, operandField_wordOf]
    exact not_or.2 ⟨by decide, Nat.not_le.2 hsio⟩
  have hop : (wordOf 5 (sio.setWidth 12)).toNat / 4096 = 5 := by
    rw [← opField_toNat, opField_wordOf]
    rfl
  rw [encodeWord_enqueue, responseFits, if_neg hlegal, hop]
  exact ⟨code, rfl⟩

theorem eventOp_answer (ev : Event) (a : EventArg) (s : State) :
    ∃ r u, eventOp ev a s = .next (respond r u) ∧ (r = .matched ∨ r = .ignored) := by
  refine ⟨_, _, eventOp_eq ev a s, ?_⟩
  split
  · exact .inl rfl
  · exact .inr rfl

/-- Every operation answers with a response of its word's kind. -/
theorem exec_answer (i : Instr) (s : State) :
    ∃ r u, exec i s = .next (respond r u) ∧ responseFits (encodeWord i) r := by
  cases i with
  | nop => exact ⟨.ok, s, rfl, rfl⟩
  | rxBit b => exact ⟨.ok, _, rfl, by cases b <;> rfl⟩
  | txBit => exact ⟨_, _, rfl, _, rfl⟩
  | timerTick => exact ⟨.ok, _, rfl, rfl⟩
  | enqueue sio data =>
    rcases execEnqueue_cases sio data s with ⟨code, h⟩ | ⟨-, -, -, code, h⟩ <;>
      exact ⟨.enq code, _, h, responseFits_enqueue sio data code⟩
  | reservedOp6 | reservedOp7 | reservedOp8 | reservedOp9 | reservedOpA | reservedOpB | reservedOpC | reservedOpD
  | reservedOpE | reservedOpF =>
    exact ⟨.illegal, s, rfl, responseFits_of_illegal (illegal_or_operand (by decide) _)⟩
  | eventFisuRx arg =>
    show ∃ r u, eventOp .fisuRx arg s = .next (respond r u) ∧ responseFits 0x4010 r
    exact eventOp_answer _ _ s
  | eventMsuRx arg =>
    show ∃ r u, eventOp .msuRx arg s = .next (respond r u) ∧ responseFits 0x4011 r
    exact eventOp_answer _ _ s
  | _ => exact eventOp_answer _ _ s

/-- Every operation takes nothing more from the stream and appends one response, of its word's kind. -/
theorem exec_answers_once (i : Instr) (s : State) :
    ∃ t r, exec i s = .next t ∧ t.cmds = s.cmds ∧ t.responses = s.responses ++ [r] ∧ responseFits (encodeWord i) r := by
  obtain ⟨t, r, -, hexec⟩ := exec_block i s
  obtain ⟨r', u, hanswer, hfits⟩ := exec_answer i s
  have hresponses : u.responses ++ [r'] = s.responses ++ [r] :=
    congrArg State.responses (Host.Outcome.next.inj (hanswer.symm.trans hexec))
  obtain rfl : r' = r := by simpa using List.append_inj_right' hresponses rfl
  exact ⟨_, r', hexec, rfl, rfl, hfits⟩

/-! ### The statements -/

/-- Settles O17, by the meaning of NOP: no field but the responses is written. -/
theorem nopOnlyAnswersOk : Obligations.NopOnlyAnswersOk := ⟨rfl, fun _ => rfl⟩

/-- Settles O18: every one of them runs as an ILLEGAL word, with its operand not read. -/
theorem reservedOperationsAnswerIllegal : Obligations.ReservedOperationsAnswerIllegal := by
  intro x s i hi
  simp only [List.mem_cons, List.not_mem_nil, or_false] at hi
  rcases hi with rfl | rfl | rfl | rfl | rfl | rfl | rfl | rfl | rfl | rfl <;> rfl

/-- Settles O5, by the two ways a word is ILLEGAL. -/
theorem illegalWordOnlyAnswersIllegal : Obligations.IllegalWordOnlyAnswersIllegal :=
  fun _ _ _ => step_of_illegal

/-- Settles O6: a word that decodes is the word of the operation run, and a word that is refused is ILLEGAL. -/
theorem everyOperationAnswersOnce : Obligations.EveryOperationAnswersOnce := by
  refine ⟨fun s c rest h => ?_, fun s h => ?_⟩
  · cases hd : decode c with
    | error e =>
      exact ⟨_, .illegal, step_of_decode_error h hd, rfl, rfl, responseFits_of_illegal (illegal_of_decode_error hd)⟩
    | ok i =>
      rw [step_of_decode_ok h hd, ← encodeWord_of_decode hd]
      exact exec_answers_once i { s with cmds := rest }
  · exact ⟨_, step_of_no_command h, h, rfl⟩

end Sys2Proof.Machine
end

section
/-! SUPPORT. An event neither reads nor writes the framer (42_framer_rx.md R289): raising it commutes with any change of
the transmitter and the receiver. -/

namespace Sys2Proof.Machine

/-- The state with another transmitter and another receiver. -/
def State.withFramer (s : State) (tx : TxState) (rx : RxState) : State := { s with tx := tx, rx := rx }

/-- A change of the state that neither reads nor writes the framer. -/
def IgnoresFramer (f : State → State) : Prop := ∀ s tx rx, f (s.withFramer tx rx) = (f s).withFramer tx rx

theorem IgnoresFramer.comp {f g : State → State} (hf : IgnoresFramer f) (hg : IgnoresFramer g) :
    IgnoresFramer fun s => f (g s) := fun s tx rx => by simp only [hg s tx rx, hf (g s) tx rx]

/-- A choice between two such changes, made by what the framer does not show. -/
theorem IgnoresFramer.ite {f g : State → State} {p : State → Prop} [DecidablePred p] (hf : IgnoresFramer f)
    (hg : IgnoresFramer g) (hp : ∀ s tx rx, p (s.withFramer tx rx) ↔ p s := by exact fun _ _ _ => .rfl) :
    IgnoresFramer fun s => if p s then f s else g s := by
  intro s tx rx
  by_cases h : p s
  · simp only [if_pos h, if_pos ((hp s tx rx).2 h), hf s tx rx]
  · simp only [if_neg h, if_neg (mt (hp s tx rx).1 h), hg s tx rx]

theorem ignoresFramer_id : IgnoresFramer id := fun _ _ _ => rfl

/-! ### The rows (40_fsm.md R143) -/

theorem seqRxFisu_ignoresFramer (a : EventArg) : IgnoresFramer (seqRxFisu a) :=
  .ite (p := fun s => a.bib = s.fib) (fun _ _ _ => rfl)
    (.ite (p := fun s => (s.queue.any fun e => e.transmitted && e.seq == a.bsn + 1) = true) (fun _ _ _ => rfl)
      ignoresFramer_id)

theorem acceptMsu_ignoresFramer (a : EventArg) : IgnoresFramer (acceptMsu a) :=
  .ite (p := fun s => a.fsn = s.rxSeq + 1 ∧ a.fib = s.bib) (fun _ _ _ => rfl)
    (.ite (p := fun s => a.fsn ≠ s.rxSeq ∧ a.fib = s.bib) (fun _ _ _ => rfl) ignoresFramer_id)

theorem seqRxMsu_ignoresFramer (a : EventArg) : IgnoresFramer (seqRxMsu a) :=
  (acceptMsu_ignoresFramer a).comp (seqRxFisu_ignoresFramer a)

theorem remoteRecoveryCheck_ignoresFramer : IgnoresFramer remoteRecoveryCheck :=
  .ite (p := fun s => s.remoteOutage = true)
    (.ite (p := fun s => s.localOutage = true) (fun _ _ _ => rfl) fun _ _ _ => rfl) ignoresFramer_id

theorem abortProving_ignoresFramer : IgnoresFramer abortProving :=
  .ite (p := fun s => s.provingTry + 1 = Config.provingTries) (fun _ _ _ => rfl) fun _ _ _ => rfl

theorem provingComplete_ignoresFramer : IgnoresFramer provingComplete :=
  .ite (p := fun s => s.furtherProving = true) (fun _ _ _ => rfl)
    (.ite (p := fun s => s.localOutage = true) (fun _ _ _ => rfl) fun _ _ _ => rfl)

theorem remoteOutageRecorded_ignoresFramer : IgnoresFramer remoteOutageRecorded :=
  .ite (p := fun s => s.remoteOutage = true) ignoresFramer_id fun _ _ _ => rfl

theorem localOutageEnds_ignoresFramer : IgnoresFramer localOutageEnds :=
  .ite (p := fun s => s.remoteOutage = true) (fun _ _ _ => rfl) fun _ _ _ => rfl

theorem rowsAlignment_ignoresFramer : ∀ r ∈ rowsAlignment, ∀ a, IgnoresFramer (r.action a) := by
  simp only [rowsAlignment, List.forall_mem_cons, List.not_mem_nil, false_imp_iff, implies_true, and_true]
  exact ⟨fun _ _ _ _ => rfl, fun _ _ _ _ => rfl, fun _ _ _ _ => rfl, fun _ _ _ _ => rfl, fun _ _ _ _ => rfl,
    fun _ _ _ _ => rfl, fun _ _ _ _ => rfl, fun _ _ _ _ => rfl, fun _ _ _ _ => rfl, fun _ _ _ _ => rfl,
    fun _ _ _ _ => rfl, fun _ _ _ _ => rfl, fun _ _ _ _ => rfl, fun _ _ _ _ => rfl,
    fun _ => abortProving_ignoresFramer, fun _ _ _ _ => rfl, fun _ _ _ _ => rfl, fun _ => provingComplete_ignoresFramer⟩

theorem rowsService_ignoresFramer : ∀ r ∈ rowsService, ∀ a, IgnoresFramer (r.action a) := by
  have up (st : LinkState) : IgnoresFramer (linkUp st) := fun _ _ _ => rfl
  have fisu := seqRxFisu_ignoresFramer
  have msu := seqRxMsu_ignoresFramer
  have check := remoteRecoveryCheck_ignoresFramer
  simp only [rowsService, List.forall_mem_cons, List.not_mem_nil, false_imp_iff, implies_true, and_true]
  exact ⟨fun _ _ _ _ => rfl, fun _ _ _ _ => rfl, fun _ _ _ _ => rfl, fun _ _ _ _ => rfl, fun _ _ _ _ => rfl,
    fun _ _ _ _ => rfl, fun _ _ _ _ => rfl, fun _ => remoteOutageRecorded_ignoresFramer,
    fun a => (fisu a).comp (up _), fun a => (msu a).comp (up _), fun a => (fisu a).comp (up _),
    fun a => (msu a).comp (up _), fisu, msu, fun a => (fisu a).comp check, fun a => (msu a).comp check,
    fun _ _ _ _ => rfl, fun _ _ _ _ => rfl, fun _ _ _ _ => rfl, fun _ _ _ _ => rfl,
    fun _ => localOutageEnds_ignoresFramer, fun _ _ _ _ => rfl, fun _ _ _ _ => rfl⟩

theorem searchTable_withFramer (ev : Event) (a : EventArg) (s : State) (tx : TxState) (rx : RxState) :
    searchTable ev a (s.withFramer tx rx) = ((searchTable ev a s).1.withFramer tx rx, (searchTable ev a s).2) := by
  rw [searchTable_eq, searchTable_eq, show (s.withFramer tx rx).state = s.state from rfl]
  cases h : matchingRow ev s.state with
  | none => rfl
  | some r =>
    have hrow : IgnoresFramer (r.action a) := by
      rcases List.mem_append.1 (List.mem_of_find?_eq_some h) with hr | hr
      · exact rowsAlignment_ignoresFramer r hr a
      · exact rowsService_ignoresFramer r hr a
    simp only [hrow s tx rx]

theorem raiseFromMonitor_ignoresFramer (ev : Event) : IgnoresFramer (raiseFromMonitor ev) := fun s tx rx => by
  simp only [raiseFromMonitor, searchTable_withFramer]

/-! ### The monitors and the dispatcher (44_error_monitor.md, 40_fsm.md R141) -/

theorem inServiceBad_ignoresFramer : IgnoresFramer inServiceBad :=
  .ite (p := fun s => Config.tMonitor ≤ s.monitorErrors + 1)
    ((raiseFromMonitor_ignoresFramer .linkFailure).comp
      (g := fun s => { s with monitorGood := 0, monitorErrors := s.monitorErrors + 1 }) fun _ _ _ => rfl)
    fun _ _ _ => rfl

theorem provingBad_ignoresFramer : IgnoresFramer provingBad :=
  .ite (p := fun s => provingThreshold s ≤ s.provingErrors + 1)
    ((raiseFromMonitor_ignoresFramer .abortProving).comp
      (g := fun s => { s with provingErrors := s.provingErrors + 1 }) fun _ _ _ => rfl)
    fun _ _ _ => rfl

theorem inServiceGood_ignoresFramer : IgnoresFramer inServiceGood :=
  .ite (p := fun s => s.monitorGood = Config.dGood - 1) (fun _ _ _ => rfl) fun _ _ _ => rfl

theorem monitorHook_ignoresFramer (ev : Event) : IgnoresFramer (monitorHook ev) :=
  .ite (p := fun _ => ev = .correctSu)
    (.ite (p := fun s => (s.state.inServiceGroup && !s.ignoreMonitor) = true) inServiceGood_ignoresFramer
      ignoresFramer_id)
    (.ite (p := fun _ => ev = .badFrame ∨ ev = .octetCountErr)
      (.ite (p := fun s => s.state = .proving ∧ s.ignoreMonitor = false) provingBad_ignoresFramer
        (.ite (p := fun s => (s.state.inServiceGroup && !s.ignoreMonitor) = true) inServiceBad_ignoresFramer
          ignoresFramer_id))
      ignoresFramer_id)

/-- An event does to the rest of the block what it does with any other framer (42_framer_rx.md R289). -/
theorem raise_ignoresFramer (ev : Event) (a : EventArg) : IgnoresFramer (raise ev a) := fun s tx rx => by
  simp only [raise, dispatch, monitorHook_ignoresFramer ev s tx rx, searchTable_withFramer]

end Sys2Proof.Machine
end

section
/-! SUPPORT. A closing flag and the frame it closes (42_framer_rx.md R273 to R287): the bytes of the store, the checks, the
events raised; then the statement about good frames. -/

namespace Sys2Proof.Machine

/-! ### The bytes of a bit store (20_memory.md R70, R75) -/

@[simp] theorem byteBits_length (x : Byte) : (byteBits x).length = 8 := by simp [byteBits]

@[simp] theorem frameBits_length (f : List Byte) : (frameBits f).length = 8 * f.length := by
  simp [frameBits, Nat.mul_comm]

theorem byteOfBits_byteBits (x : Byte) : byteOfBits (byteBits x) = x := by
  ext i hi
  interval_cases i <;> simp [byteOfBits, byteBits, List.range_succ]

/-- A byte string is read back from its bits, whatever is stored after them. -/
theorem bytesOfBits_frameBits_append (f : List Byte) (rest : List Bool) :
    bytesOfBits (frameBits f ++ rest) f.length = f := by
  induction f with
  | nil => rfl
  | cons x f ih =>
    have hfirst : memReadBits (frameBits (x :: f) ++ rest) 0 = x := by
      simp [memReadBits, frameBits, byteOfBits_byteBits]
    have hnext : ∀ i, memReadBits (frameBits (x :: f) ++ rest) (i + 1) =
        memReadBits (frameBits f ++ rest) i := fun i => by
      have hdrop : (byteBits x ++ (frameBits f ++ rest)).drop (8 * i + 8) = (frameBits f ++ rest).drop (8 * i) := by
        rw [Nat.add_comm, ← List.drop_drop, List.drop_left' (byteBits_length x)]
      simp only [memReadBits, Nat.mul_add_one]
      rw [← hdrop]
      simp [frameBits]
    rw [bytesOfBits, List.length_cons, List.range_succ_eq_map, List.map_cons, List.map_map, hfirst]
    refine congrArg (x :: ·) (Eq.trans ?_ ih)
    exact List.map_congr_left fun i _ => hnext i

/-! ### A completed flag (42_framer_rx.md R270 to R273) -/

/-- A bit that completes no octet-count window is only counted (42_framer_rx.md R272). -/
theorem countOctetBit_of_no_window {s : State} (h : ¬(s.rx.ocActive = true ∧ s.rx.ocBits = 127)) :
    countOctetBit s =
      { s with rx := { s.rx with ocBits := if s.rx.ocActive then s.rx.ocBits + 1 else s.rx.ocBits } } := by
  rcases countOctetBit_cases s with ⟨hactive, he⟩ | ⟨hactive, -, he⟩ | ⟨hactive, hfull, -⟩
  · rw [he, hactive]
    rfl
  · rw [he, hactive]
    rfl
  · exact absurd ⟨hactive, Nat.succ.inj hfull⟩ h

theorem restartOctetCount_eq (s : State) :
    restartOctetCount s = { s with rx := { s.rx with ocBits := if s.rx.ocActive then 0 else s.rx.ocBits } } := by
  unfold restartOctetCount
  split <;> rfl

/-- A bit that completes a flag, and no octet-count window, restarts the octet count and closes the open frame. -/
theorem receiveBit_of_completesFlag {b : Bool} {s : State} (h : completesFlag b s) :
    receiveBit b s = openFrame (closeOpenFrame
      { s with rx := { s.rx with sr := 0x7E, ocBits := if s.rx.ocActive then 0 else s.rx.ocBits } }) := by
  obtain ⟨hsr, hwindow⟩ := h
  have hcounted := countOctetBit_of_no_window (s := { s with rx := { s.rx with sr := 0x7E } }) hwindow
  rw [receiveBit, shiftIn_eq, hsr, hcounted, classifyBit, if_pos (by rfl), flagReceived, restartOctetCount_eq]
  cases s.rx.ocActive <;> rfl

/-! ### The checks of a frame (42_framer_rx.md R279, R281, R283) -/

theorem liOk_iff (x : Byte) (p : Nat) : liOk x p = true ↔ x.toNat % 64 = min p 63 := by
  have hli : (x.extractLsb' 0 6).toNat = x.toNat % 64 := by simp
  rw [liOk, hli]
  rcases Nat.lt_or_ge p 63 with hp | hp
  · simp [Config.liMax, hp, hp.le]
  · simp [Config.liMax, hp, Nat.not_lt.2 hp]

theorem frameOk_iff (c : Config.Crc16) (f : List Byte) :
    frameOk c (8 * f.length) f = true ↔ passesChecks c f := by
  have hbytes : 8 * f.length / 8 = f.length := Nat.mul_div_cancel_left _ (by decide)
  simp only [frameOk, passesChecks, crcBytes, hbytes, Nat.mul_mod_right, Bool.and_eq_true, beq_iff_eq,
    decide_eq_true_eq, liOk_iff, true_and, and_assoc]
  rw [eq_comm (a := List.drop _ _)]

/-! ### The events of a good frame (42_framer_rx.md R285 to R287, 30_encoding.md R116) -/

/-- Running the operations does to the block what `f` does; what the ports hold matters to neither. -/
def RunsAs (is : List Instr) (f : State → State) : Prop :=
  ∀ s cs rs, ∃ rs', execAll is (s.withPorts cs rs) = .next ((f s).withPorts cs rs')

theorem RunsAs.nil : RunsAs [] id := fun _ _ rs => ⟨rs, rfl⟩

/-- An EVENT operation does what its event, raised inside the block, does (40_fsm.md R140, R146). -/
theorem RunsAs.cons_event {i : Instr} {ev : Event} {a : EventArg} (hi : exec i = eventOp ev a) {is : List Instr}
    {f : State → State} (h : RunsAs is f) : RunsAs (i :: is) fun s => f (raise ev a s) := by
  intro s cs rs
  obtain ⟨rs', hrest⟩ := h (raise ev a s) cs
    (rs ++ [if (dispatch ev a (s.withPorts cs rs)).2 then .matched else .ignored])
  refine ⟨rs', ?_⟩
  rw [← hrest, execAll, hi, eventOp_eq, raise_ignoresPorts ev a s cs rs]
  rfl

theorem runsAs_event {i : Instr} {ev : Event} {a : EventArg} (hi : exec i = eventOp ev a) :
    RunsAs [i] (raise ev a) := .cons_event hi .nil

/-- The EVENT operations of a status number: none for the reserved statuses (R286). -/
def statusInstrs (status : Nat) : List Instr :=
  match status with
  | 0 => [.eventSioRx]
  | 1 => [.eventSinRx]
  | 2 => [.eventSieRx]
  | 3 => [.eventSiosRx]
  | 4 => [.eventSipoRx]
  | 5 => [.eventSibRx]
  | _ => []

theorem frameEvent_of_fisu {n : Nat} (hn : n - 5 = 0) (f : List Byte) :
    frameEvent f n = raise .fisuRx (headerArg f) := by
  funext s
  rw [frameEvent, if_pos hn]

theorem frameEvent_of_msu {n : Nat} (hn : 2 < n - 5) (f : List Byte) :
    frameEvent f n = raise .msuRx (msuArg f n) := by
  funext s
  rw [frameEvent, if_neg (by omega), if_neg (by omega)]

theorem frameEvent_of_status {n : Nat} (hpos : 0 < n - 5) (hn : n - 5 ≤ 2) {f : List Byte} {ev : Event}
    (hev : lssuEvent ((f.getD 3 0).extractLsb' 0 3) = some ev) : frameEvent f n = raise ev EventArg.empty := by
  funext s
  rw [frameEvent, if_neg (by omega), if_pos hn, hev]

theorem frameEvent_of_no_status {n : Nat} (hpos : 0 < n - 5) (hn : n - 5 ≤ 2) {f : List Byte}
    (hev : lssuEvent ((f.getD 3 0).extractLsb' 0 3) = none) : frameEvent f n = id := by
  funext s
  rw [frameEvent, if_neg (by omega), if_pos hn, hev]
  rfl

/-- A good frame raises one event of its own, or none (R285, R286). -/
theorem frameEvent_cases (f : List Byte) (n : Nat) : frameEvent f n = id ∨ ∃ ev a, frameEvent f n = raise ev a := by
  rcases Nat.lt_or_ge 2 (n - 5) with hmsu | hshort
  · exact .inr ⟨_, _, frameEvent_of_msu hmsu f⟩
  · rcases Nat.eq_zero_or_pos (n - 5) with hfisu | hpos
    · exact .inr ⟨_, _, frameEvent_of_fisu hfisu f⟩
    · cases hev : lssuEvent ((f.getD 3 0).extractLsb' 0 3) with
      | none => exact .inl (frameEvent_of_no_status hpos hshort hev)
      | some ev => exact .inr ⟨ev, _, frameEvent_of_status hpos hshort hev⟩

/-- The status operations do what the received LSSU does (R286). -/
theorem statusInstrs_runsAs {f : List Byte} (hpos : 0 < f.length - 5) (hshort : f.length - 5 ≤ 2) :
    RunsAs (statusInstrs ((f.getD 3 0).toNat % 8)) (frameEvent f f.length) := by
  have hstatus : (f.getD 3 0).extractLsb' 0 3 = BitVec.ofNat 3 ((f.getD 3 0).toNat % 8) := by
    apply BitVec.eq_of_toNat_eq
    simp
  have hlt : (f.getD 3 0).toNat % 8 < 8 := Nat.mod_lt _ (by decide)
  generalize (f.getD 3 0).toNat % 8 = k at hstatus hlt ⊢
  have one_event : ∀ {i ev}, exec i = eventOp ev EventArg.empty → lssuEvent (BitVec.ofNat 3 k) = some ev →
      RunsAs [i] (frameEvent f f.length) := fun hi hev => by
    rw [frameEvent_of_status hpos hshort (hstatus ▸ hev)]
    exact runsAs_event hi
  have no_event : lssuEvent (BitVec.ofNat 3 k) = none → RunsAs [] (frameEvent f f.length) := fun hev => by
    rw [frameEvent_of_no_status hpos hshort (hstatus ▸ hev)]
    exact .nil
  interval_cases k
  · exact one_event (i := .eventSioRx) rfl rfl
  · exact one_event (i := .eventSinRx) rfl rfl
  · exact one_event (i := .eventSieRx) rfl rfl
  · exact one_event (i := .eventSiosRx) rfl rfl
  · exact one_event (i := .eventSipoRx) rfl rfl
  · exact one_event (i := .eventSibRx) rfl rfl
  · exact no_event rfl
  · exact no_event rfl

/-- The EVENT operation of a good frame, by its length (R285). -/
def frameInstrs (f : List Byte) : List Instr :=
  if f.length = 5 then [.eventFisuRx (headerArg f)]
  else if f.length ≤ 7 then statusInstrs ((f.getD 3 0).toNat % 8)
  else [.eventMsuRx (msuArg f f.length)]

theorem frameInstrs_runsAs {f : List Byte} (hlen : 5 ≤ f.length) : RunsAs (frameInstrs f) (frameEvent f f.length) := by
  unfold frameInstrs
  split
  · next h5 =>
    rw [frameEvent_of_fisu (by omega)]
    exact runsAs_event rfl
  · split
    · next h5 h7 => exact statusInstrs_runsAs (by omega) (by omega)
    · next h7 =>
      rw [frameEvent_of_msu (by omega)]
      exact runsAs_event rfl

/-! ### A good frame (42_framer_rx.md R285, R289) -/

/-- What a good frame raises, on the state with whatever receiver. -/
def goodFrameEvents (f : List Byte) (s : State) : State := frameEvent f f.length (raise .correctSu EventArg.empty s)

theorem goodFrameEvents_ignoresFramer (f : List Byte) : IgnoresFramer (goodFrameEvents f) := by
  have hown : IgnoresFramer (frameEvent f f.length) := by
    rcases frameEvent_cases f f.length with h | ⟨ev, a, h⟩ <;> rw [h]
    · exact ignoresFramer_id
    · exact raise_ignoresFramer ev a
  exact hown.comp (raise_ignoresFramer .correctSu EventArg.empty)

theorem goodFrameEvents_frame (f : List Byte) (s : State) : EventFrame s (goodFrameEvents f s) := by
  refine (raise_frame .correctSu EventArg.empty s).trans ?_
  rcases frameEvent_cases f f.length with h | ⟨ev, a, h⟩ <;> rw [goodFrameEvents, h]
  · exact .refl _
  · exact raise_frame ev a _

theorem goodFrameEvents_runsAs {f : List Byte} (hlen : 5 ≤ f.length) :
    RunsAs (.eventCorrectSu :: frameInstrs f) (goodFrameEvents f) :=
  .cons_event rfl (frameInstrs_runsAs hlen)

/-- The flag that closes a good frame leaves its events' effect, and the receiver at the start of the next frame. -/
theorem receiveBit_of_goodFrame {b : Bool} {s : State} {f : List Byte} (hflag : completesFlag b s)
    (hheld : holdsFrame s f) (hchecks : passesChecks s.params.crc16 f) :
    receiveBit b s = { goodFrameEvents f s with
      rx := { s.rx with sr := 0x7E, inFrame := true, bits := [], nbits := 0, flagRun := 0, ocActive := false,
                        ocBits := 0 } } := by
  obtain ⟨hframe, hbits, hnbits⟩ := hheld
  have hlen : 5 ≤ f.length := hchecks.1
  have hnb : s.rx.nbits = 8 * f.length + 7 := by simp [hnbits, hbits]
  have hbytes : 8 * f.length / 8 = f.length := Nat.mul_div_cancel_left _ (by decide)
  have hclose : ∀ oc, closeOpenFrame { s with rx := { s.rx with sr := 0x7E, ocBits := oc } } =
      goodFrameEvents f (s.withFramer s.tx
        { s.rx with sr := 0x7E, flagRun := 0, ocActive := false, ocBits := 0 }) := fun oc => by
    simp only [closeOpenFrame, hframe, if_true, closeFrame, hnb]
    rw [if_neg (by omega), closeFilledFrame, Nat.add_sub_cancel, hbits, hbytes, bytesOfBits_frameBits_append,
      if_pos ((frameOk_iff _ f).2 hchecks)]
    rfl
  rw [receiveBit_of_completesFlag hflag, hclose, goodFrameEvents_ignoresFramer]
  simp only [openFrame, clearStore, State.withFramer, (goodFrameEvents_frame f s).tx]

/-- Settles O53: the events of a good frame are those of the operations, and none of them reads the receiver. -/
theorem rxGoodFrameRaisesItsEvents : Obligations.RxGoodFrameRaisesItsEvents := by
  intro b s f hflag hheld hchecks h0 h1 own
  obtain ⟨rs, hrun⟩ := goodFrameEvents_runsAs hchecks.1 s s.cmds s.responses
  refine ⟨_, hrun, ?_⟩
  show Host.Outcome.next (respond .ok (receiveBit b s)) = _
  have hevents := goodFrameEvents_frame f s
  rw [receiveBit_of_goodFrame hflag hheld hchecks]
  simp only [respond, State.withPorts, hevents.cmds, hevents.responses]

end Sys2Proof.Machine
end

section
/-! SUPPORT. The EVENT operation by the row its event matches (40_fsm.md R140 to R143), and what the actions of rows 10,
11, 15, 18 and 27 to 34 leave; then the statements about one event each. -/

namespace Sys2Proof.Machine

/-! ### The row an event matches (40_fsm.md R142, R211) -/

/-- Settles O20, entry by entry of the matrix. -/
theorem firstMatchGivesMatrix : Obligations.FirstMatchGivesMatrix := by
  intro ev st
  cases ev <;> cases st <;> rfl

/-- An event matches no row in a state exactly where the matrix has no number. -/
theorem matchingRow_eq_none_iff (ev : Event) (st : LinkState) :
    matchingRow ev st = none ↔ fsmMatrix ev st = none := by
  rw [← firstMatchGivesMatrix ev st, Option.map_eq_none_iff]

/-! ### What an EVENT operation leaves (40_fsm.md R140, R141)

`u` is the state the monitor hook leaves: `s` itself, for an event that feeds no monitor. -/

theorem dispatch_of_row {ev : Event} {a : EventArg} {s u : State} {st : LinkState} (hs : u.state = st)
    (act : EventArg → State → State) (hrow : (matchingRow ev st).map Row.action = some act := by rfl)
    (hook : monitorHook ev s = u := by rfl) : dispatch ev a s = (act a u, true) := by
  obtain ⟨r, hr, rfl⟩ := Option.map_eq_some_iff.1 hrow
  simp only [dispatch, hook, searchTable_eq, hs, hr]

theorem dispatch_of_no_row {ev : Event} {a : EventArg} {s u : State} {st : LinkState} (hs : u.state = st)
    (hrow : matchingRow ev st = none := by rfl) (hook : monitorHook ev s = u := by rfl) :
    dispatch ev a s = (u, false) := by
  simp only [dispatch, hook, searchTable_eq, hs, hrow]

/-- An event that has one action, in the states of `p`. -/
theorem dispatch_of_rows {ev : Event} {a : EventArg} {s : State} (p : LinkState → Prop) [DecidablePred p]
    (act : EventArg → State → State)
    (hrows : ∀ st, (matchingRow ev st).map Row.action = if p st then some act else none := by
      intro st; cases st <;> rfl)
    (hook : monitorHook ev s = s := by rfl) :
    dispatch ev a s = if p s.state then (act a s, true) else (s, false) := by
  have hrow := hrows s.state
  by_cases hp : p s.state
  · rw [if_pos hp] at hrow ⊢
    exact dispatch_of_row rfl act hrow hook
  · rw [if_neg hp] at hrow ⊢
    exact dispatch_of_no_row rfl (Option.map_eq_none_iff.1 hrow) hook

theorem raise_of_rows {ev : Event} {a : EventArg} {s : State} (p : LinkState → Prop) [DecidablePred p]
    (act : EventArg → State → State)
    (hrows : ∀ st, (matchingRow ev st).map Row.action = if p st then some act else none := by
      intro st; cases st <;> rfl)
    (hook : monitorHook ev s = s := by rfl) : raise ev a s = if p s.state then act a s else s := by
  rw [raise, dispatch_of_rows p act hrows hook, apply_ite Prod.fst]

theorem eventOp_of_row {ev : Event} {a : EventArg} {s u : State} {st : LinkState} (hs : u.state = st)
    (act : EventArg → State → State) (hrow : (matchingRow ev st).map Row.action = some act := by rfl)
    (hook : monitorHook ev s = u := by rfl) : eventOp ev a s = .next (respond .matched (act a u)) := by
  rw [eventOp, dispatch_of_row hs act hrow hook, if_pos rfl]

theorem eventOp_of_no_row {ev : Event} {a : EventArg} {s u : State} {st : LinkState} (hs : u.state = st)
    (hrow : matchingRow ev st = none := by rfl) (hook : monitorHook ev s = u := by rfl) :
    eventOp ev a s = .next (respond .ignored u) := by
  rw [eventOp, dispatch_of_no_row hs hrow hook, if_neg nofun]

theorem eventOp_of_rows {ev : Event} {a : EventArg} {s : State} (p : LinkState → Prop) [DecidablePred p]
    (act : EventArg → State → State)
    (hrows : ∀ st, (matchingRow ev st).map Row.action = if p st then some act else none := by
      intro st; cases st <;> rfl)
    (hook : monitorHook ev s = s := by rfl) :
    eventOp ev a s = .next (if p s.state then respond .matched (act a s) else respond .ignored s) := by
  rw [eventOp, dispatch_of_rows p act hrows hook]
  split <;> rfl

/-- An answer recorded after a change that leaves the ports alone. -/
theorem EventFrame.respond_eq {s t : State} (h : EventFrame s t) (r : Response) :
    respond r t = { t with responses := s.responses ++ [r] } := by
  rw [respond, h.responses]

/-! ### The Stop and failure actions (40_fsm.md R149, R150) -/

/-- Settles O21, by rows 1 and 2, which apply in every state. -/
theorem powerOnAndStopRunTheStopAction : Obligations.PowerOnAndStopRunTheStopAction :=
  ⟨rfl, rfl, fun s => ⟨rfl, eventOp_of_row rfl (fun _ => stop) (by cases s.state <;> rfl),
    eventOp_of_row rfl (fun _ => stop) (by cases s.state <;> rfl)⟩⟩

/-- Settles O22, by the numbers of the six causes. -/
theorem failureActionStopsAndReports : Obligations.FailureActionStopsAndReports := by
  intro c s
  exact ⟨rfl, by cases c <;> decide⟩

/-! ### Events that match no row, or one action -/

/-- Settles O19: the matrix has no number for any of them, and none has a monitor hook. -/
theorem reservedEventsAndSibIgnored : Obligations.ReservedEventsAndSibIgnored := by
  intro s i hi
  have hnone {ev : Event} (h : ∀ st, fsmMatrix ev st = none) : matchingRow ev s.state = none :=
    (matchingRow_eq_none_iff ev s.state).2 (h s.state)
  simp only [List.mem_cons, List.not_mem_nil, or_false] at hi
  rcases hi with rfl | rfl | rfl | rfl | rfl | rfl | rfl | rfl | rfl <;>
    exact eventOp_of_no_row rfl (hnone fun _ => rfl)

/-- Settles O23, by rows 3 and 4, which apply in every state. -/
theorem emergencyEventsWriteTheFlag : Obligations.EmergencyEventsWriteTheFlag :=
  ⟨rfl, rfl, fun s =>
    ⟨eventOp_of_row rfl (fun _ s => { s with localEmergency := true }) (by cases s.state <;> rfl),
      eventOp_of_row rfl (fun _ s => { s with localEmergency := false }) (by cases s.state <;> rfl)⟩⟩

/-- Settles O24, by row 5. -/
theorem startBeginsAlignment : Obligations.StartBeginsAlignment :=
  ⟨rfl, fun _ => eventOp_of_rows (· = .outOfService) fun _ => startAlignment⟩

/-- Settles O35, by rows 19, 20, 9 and 13. -/
theorem failureEventsFailTheLink : Obligations.FailureEventsFailTheLink :=
  ⟨rfl, rfl, rfl, rfl, fun _ =>
    ⟨eventOp_of_rows (·.inServiceGroup = true) fun _ => fail .linkFailureLocal,
      eventOp_of_rows (fun st => st = .alignedReady ∨ st = .alignedNotReady) fun _ => fail .linkFailureLocal,
      eventOp_of_rows (· = .notAligned) fun _ => fail .alignmentTimeout,
      eventOp_of_rows (· = .aligned) fun _ => fail .provingTimeout⟩⟩

/-! ### Proving (40_fsm.md R165, R171, R173) -/

/-- T4's duration is that of an emergency when either side asks for one (45_timers.md R375). -/
theorem timerDuration_t4 (s : State) :
    timerDuration s .t4 =
      perRate s (if s.localEmergency || s.remoteEmergency then s.params.t4eDur else s.params.t4nDur) :=
  (apply_ite (perRate s) _ _ _).symm

/-- Rows 10 and 11 clear the proving counters and arm T4 by the emergency flags they leave (R165). -/
theorem enterProving_eq (st : LssuStatus) (s : State) :
    enterProving st s =
      { s with
        t3 := Timer.off, remoteEmergency := decide (st = lssuSIE), provingTry := 0, provingErrors := 0,
        furtherProving := false, state := .proving
        t4 := ⟨true, perRate s
          (if s.localEmergency || decide (st = lssuSIE) then s.params.t4eDur else s.params.t4nDur)⟩ } := by
  simp only [enterProving, arm_eq, timerDuration_t4]
  rfl

/-- Row 15 fails the link at the fifth try, else starts another (R171). -/
theorem abortProving_eq (s : State) :
    abortProving s =
      if s.provingTry + 1 = 5 then fail .provingFailureLocal s
      else { s with provingTry := s.provingTry + 1, furtherProving := true, provingErrors := 0 } := rfl

/-- Settles O34, by row 15. -/
theorem abortProvingCountsTries : Obligations.AbortProvingCountsTries := by
  refine ⟨rfl, fun s => (eventOp_of_rows (ev := .abortProving) (· = .proving) fun _ => abortProving).trans ?_⟩
  rw [abortProving_eq, apply_ite (respond .matched)]
  rfl

/-- Settles O36, by the two ends of a proving period. -/
theorem t4ExpiryEndsOrRestartsProving : Obligations.T4ExpiryEndsOrRestartsProving := by
  refine ⟨rfl, fun s => (eventOp_of_rows (ev := .t4Timeout) (· = .proving) fun _ => provingComplete).trans ?_⟩
  rcases provingComplete_cases s with ⟨hfurther, he⟩ | ⟨hfurther, he⟩ <;> rw [he, hfurther]
  · rw [timerDuration_t4]
    rfl
  · rfl

/-! ### Link status received (40_fsm.md R156 to R163, R172, R174, R182 to R199) -/

/-- Settles O25, by rows 6, 16 and 21. -/
theorem sioReceived : Obligations.SioReceived := by
  refine ⟨rfl, fun s => ?_⟩
  cases hs : s.state with
  | notAligned => exact eventOp_of_row hs fun _ => enterAligned lssuSIO
  | proving => exact eventOp_of_row hs fun _ => fail .provingFailureRemote
  | alignedReady | alignedNotReady | inService | processorOutage =>
    exact eventOp_of_row hs fun _ => fail .linkFailureRemote
  | powerOff | outOfService | aligned => exact eventOp_of_no_row hs

/-- Settles O26, by rows 7, 10 and 22; with `remote_emergency` cleared first, T4 goes by `local_emergency`. -/
theorem sinReceived : Obligations.SinReceived := by
  refine ⟨rfl, fun s => ?_⟩
  cases hs : s.state with
  | notAligned => exact eventOp_of_row hs fun _ => enterAligned lssuSIN
  | aligned =>
    refine (eventOp_of_row (ev := .sinRx) hs fun _ => enterProving lssuSIN).trans ?_
    have hnormal : decide (lssuSIN = lssuSIE) = false := rfl
    rw [enterProving_eq, hnormal, Bool.or_false]
    rfl
  | inService | processorOutage => exact eventOp_of_row hs fun _ => fail .linkFailureRemote
  | powerOff | outOfService | proving | alignedReady | alignedNotReady => exact eventOp_of_no_row hs

/-- Settles O27, by rows 8, 11 and 23; with `remote_emergency` set first, T4 takes the emergency duration. -/
theorem sieReceived : Obligations.SieReceived := by
  refine ⟨rfl, fun s => ?_⟩
  cases hs : s.state with
  | notAligned => exact eventOp_of_row hs fun _ => enterAligned lssuSIE
  | aligned =>
    refine (eventOp_of_row (ev := .sieRx) hs fun _ => enterProving lssuSIE).trans ?_
    have hemergency : decide (lssuSIE = lssuSIE) = true := rfl
    rw [enterProving_eq, hemergency, Bool.or_true]
    rfl
  | inService | processorOutage => exact eventOp_of_row hs fun _ => fail .linkFailureRemote
  | powerOff | outOfService | proving | alignedReady | alignedNotReady => exact eventOp_of_no_row hs

/-- Settles O28, by rows 12, 17 and 24. -/
theorem siosReceived : Obligations.SiosReceived := by
  refine ⟨rfl, fun s => ?_⟩
  cases hs : s.state with
  | aligned | proving => exact eventOp_of_row hs fun _ => fail .provingFailureRemote
  | alignedReady | alignedNotReady | inService | processorOutage =>
    exact eventOp_of_row hs fun _ => fail .linkFailureRemote
  | powerOff | outOfService | notAligned => exact eventOp_of_no_row hs

/-- Row 26 sets the flag, and reports an outage that was not on record (R199). -/
theorem remoteOutageRecorded_eq (s : State) :
    remoteOutageRecorded s =
      { s with
        remoteOutage := true
        indOut := if s.remoteOutage then s.indOut else s.indOut ++ [.remoteProcessorOutage] } := by
  unfold remoteOutageRecorded
  split
  · next hremote => rw [← hremote]
  · rfl

/-- Settles O29, by rows 25 and 26. -/
theorem sipoReceived : Obligations.SipoReceived := by
  refine ⟨rfl, fun s => ?_⟩
  cases hs : s.state with
  | alignedReady | alignedNotReady | inService => exact eventOp_of_row hs fun _ => remoteOutageBegins
  | processorOutage =>
    refine (eventOp_of_row (ev := .sipoRx) hs fun _ => remoteOutageRecorded).trans ?_
    rw [remoteOutageRecorded_eq, hs]
    rfl
  | powerOff | outOfService | notAligned | aligned | proving => exact eventOp_of_no_row hs

/-! ### The local processor (40_fsm.md R196 to R198, R202 to R205) -/

/-- Settles O30, by rows 35, 37, 38 and 40. -/
theorem localOutageReported : Obligations.LocalOutageReported := by
  refine ⟨rfl, fun s => ?_⟩
  cases hs : s.state with
  | alignedReady => exact eventOp_of_row hs fun _ => localOutageBegins .alignedNotReady
  | inService | processorOutage => exact eventOp_of_row hs fun _ => localOutageBegins .processorOutage
  | powerOff | outOfService | notAligned | aligned | proving | alignedNotReady =>
    refine (eventOp_of_row (ev := .localProcessorOutage) hs fun _ s => { s with localOutage := true }).trans ?_
    rw [hs]
    rfl

/-- Row 39 stops SIPO, and returns to service when the peer has no outage either (R203). -/
theorem localOutageEnds_eq (s : State) :
    localOutageEnds s =
      if s.remoteOutage then { s with localOutage := false, txLssu := none }
      else { s with localOutage := false, txLssu := none, state := .inService,
                    indOut := s.indOut ++ [.remoteProcessorRecovered] } := rfl

/-- Settles O31, by rows 36, 39 and 41. -/
theorem localRecoveryReported : Obligations.LocalRecoveryReported := by
  refine ⟨rfl, fun s => ?_⟩
  cases hs : s.state with
  | alignedNotReady => exact eventOp_of_row hs fun _ => localOutageEndsNotReady
  | processorOutage =>
    refine (eventOp_of_row (ev := .localProcessorRecovered) hs fun _ => localOutageEnds).trans ?_
    rw [localOutageEnds_eq, apply_ite (respond .matched), hs]
    rfl
  | powerOff | outOfService | notAligned | aligned | proving | alignedReady | inService =>
    refine (eventOp_of_row (ev := .localProcessorRecovered) hs fun _ s => { s with localOutage := false }).trans ?_
    rw [hs]
    rfl

/-! ### FISU and MSU received (40_fsm.md R188 to R194, R200, R201) -/

/-- The outage check of rows 33 and 34 is the link change in PROCESSOR_OUTAGE. -/
theorem linkChangeOnFrame_of_outage {s : State} (hs : s.state = .processorOutage) :
    linkChangeOnFrame s = remoteRecoveryCheck s := by
  unfold linkChangeOnFrame remoteRecoveryCheck
  rw [hs]
  cases s.remoteOutage <;> rfl

/-- The action of the rows of a frame event, whose sequence processing is `seqRx`. -/
def frameAction (seqRx : EventArg → State → State) : LinkState → Option (EventArg → State → State)
  | .alignedReady => some fun a s => seqRx a (linkUp .inService s)
  | .alignedNotReady => some fun a s => seqRx a (linkUp .processorOutage s)
  | .inService => some seqRx
  | .processorOutage => some fun a s => seqRx a (remoteRecoveryCheck s)
  | .powerOff | .outOfService | .notAligned | .aligned | .proving => none

/-- A frame event runs its sequence processing after the link change of the state (R188 to R194, R200, R201). -/
theorem eventOp_of_frameAction {ev : Event} (a : EventArg) (s : State) {seqRx : EventArg → State → State}
    (hrows : ∀ st, (matchingRow ev st).map Row.action = frameAction seqRx st) (hook : monitorHook ev s = s) :
    eventOp ev a s =
      .next (if s.state.inServiceGroup then respond .matched (seqRx a (linkChangeOnFrame s))
        else respond .ignored s) := by
  have hrow := hrows s.state
  cases hs : s.state <;> rw [hs] at hrow
  case processorOutage =>
    rw [linkChangeOnFrame_of_outage hs]
    exact eventOp_of_row hs _ hrow hook
  case alignedReady | alignedNotReady | inService =>
    rw [linkChangeOnFrame, hs]
    exact eventOp_of_row hs _ hrow hook
  case powerOff | outOfService | notAligned | aligned | proving =>
    exact eventOp_of_no_row hs (Option.map_eq_none_iff.1 hrow) hook

theorem linkChangeOnFrame_frame (s : State) : EventFrame s (linkChangeOnFrame s) := by
  cases hs : s.state with
  | processorOutage =>
    rw [linkChangeOnFrame_of_outage hs]
    exact remoteRecoveryCheck_frame s
  | alignedReady | alignedNotReady =>
    rw [linkChangeOnFrame, hs]
    exact linkUp_frame _ s
  | powerOff | outOfService | notAligned | aligned | proving | inService =>
    rw [linkChangeOnFrame, hs]
    exact .refl s

/-- Settles O32, by rows 27, 29, 31 and 33. -/
theorem fisuReceived : Obligations.FisuReceived := by
  refine ⟨fun _ => rfl, fun a s =>
    (eventOp_of_frameAction (ev := .fisuRx) (seqRx := seqRxFisu) a s (fun st => by cases st <;> rfl) rfl).trans ?_⟩
  rw [((linkChangeOnFrame_frame s).trans (seqRxFisu_frame a _)).respond_eq]
  rfl

/-- Settles O33, by rows 28, 30, 32 and 34. -/
theorem msuReceived : Obligations.MsuReceived := by
  refine ⟨fun _ => rfl, fun a s =>
    (eventOp_of_frameAction (ev := .msuRx) (seqRx := seqRxMsu) a s (fun st => by cases st <;> rfl) rfl).trans ?_⟩
  rw [((linkChangeOnFrame_frame s).trans (seqRxMsu_frame a _)).respond_eq]
  rfl

/-! ### CORRECT_SU (40_fsm.md R170, 44_error_monitor.md R355) -/

@[simp] theorem inServiceGood_state (s : State) : (inServiceGood s).state = s.state := by
  unfold inServiceGood
  split <;> rfl

/-- The 256th good frame of a run restarts the count and takes one error off (R355). -/
theorem inServiceGood_eq (s : State) :
    inServiceGood s =
      if s.monitorGood = 255 then
        { s with monitorGood := 0, monitorErrors := if 0 < s.monitorErrors then s.monitorErrors - 1 else 0 }
      else { s with monitorGood := s.monitorGood + 1 } := by
  have hfloor : (if 0 < s.monitorErrors then s.monitorErrors - 1 else 0) = s.monitorErrors - 1 := by
    split <;> omega
  rw [hfloor]
  rfl

/-- The good-frame hook runs in the in-service group with the monitor on (R350, R351). -/
theorem monitorHook_correctSu (s : State) :
    monitorHook .correctSu s =
      if s.state.inServiceGroup = true ∧ s.ignoreMonitor = false then inServiceGood s else s := by
  simp [monitorHook, monitorGoodHook]

/-- CORRECT_SU matches row 14 only, in PROVING. -/
theorem matchingRow_correctSu {st : LinkState} (h : st ≠ .proving) : matchingRow .correctSu st = none := by
  cases st with
  | proving => exact absurd rfl h
  | _ => rfl

/-- Settles O37: in PROVING the row acts and the monitor does not, elsewhere the other way round. -/
theorem correctSuCountsGoodFrames : Obligations.CorrectSuCountsGoodFrames := by
  refine ⟨rfl, fun s => ?_⟩
  have hook := monitorHook_correctSu s
  by_cases hproving : s.state = .proving
  · rw [if_neg (by simp [hproving, LinkState.inServiceGroup])] at hook
    rw [if_pos hproving]
    exact eventOp_of_row hproving (fun _ s => { s with furtherProving := false }) (hook := hook)
  · rw [if_neg hproving]
    by_cases hcounts : s.state.inServiceGroup = true ∧ s.ignoreMonitor = false
    · rw [if_pos hcounts] at hook ⊢
      have hnone := matchingRow_correctSu hproving
      rw [← inServiceGood_state] at hnone
      refine (eventOp_of_no_row (ev := .correctSu) rfl hnone hook).trans ?_
      rw [inServiceGood_eq, apply_ite (respond .ignored)]
      rfl
    · rw [if_neg hcounts] at hook ⊢
      exact eventOp_of_no_row rfl (matchingRow_correctSu hproving) hook

end Sys2Proof.Machine
end


section
/-! SUPPORT. The last tick of the one armed timer as its timeout event (40_fsm.md R146, 45_timers.md R370). -/

namespace Sys2Proof.Machine

/-- A timer that is not armed does not expire. -/
theorem expireTimer_of_not_armed {n : TimerId} {s : State} (h : (getTimer n s).armed = false) :
    expireTimer n s = s := by
  rcases expireTimer_cases n s with he | ⟨harmed, -, -⟩
  · exact he
  · exact absurd (h.symm.trans harmed) nofun

/-- With one timer armed, the decrement counts that timer only. -/
theorem decrementTimers_of_one_armed {n : TimerId} {s : State} {count : Nat} (hn : getTimer n s = ⟨true, count⟩)
    (hother : ∀ m, m ≠ n → (getTimer m s).armed = false) :
    decrementTimers s = setTimer n ⟨true, count - 1⟩ s := by
  have hcounted : (getTimer n s).tick = ⟨true, count - 1⟩ := by simp [hn, Timer.tick]
  have hkeep : ∀ m, m ≠ n → (getTimer m s).tick = getTimer m s := fun m hm => by simp [Timer.tick, hother m hm]
  have h1 : TimerId.t1 ≠ n → s.t1.tick = s.t1 := hkeep .t1
  have h2 : TimerId.t2 ≠ n → s.t2.tick = s.t2 := hkeep .t2
  have h3 : TimerId.t3 ≠ n → s.t3.tick = s.t3 := hkeep .t3
  have h4 : TimerId.t4 ≠ n → s.t4.tick = s.t4 := hkeep .t4
  rw [← hcounted]
  cases n <;> simp [decrementTimers, setTimer, getTimer, h1, h2, h3, h4]

/-- The expiry of T1, T2 or T3 fails the link, or matches no row (40_fsm.md R159, R164, R181). -/
theorem raise_timeout_cases {n : TimerId} (hn : n ≠ .t4) (a : EventArg) (s : State) :
    raise (timeoutEvent n) a s = s ∨ ∃ c, raise (timeoutEvent n) a s = fail c s := by
  have hfails {t : State} {c : Cause} {p : Prop} [Decidable p] (ht : t = if p then fail c s else s) :
      t = s ∨ ∃ c, t = fail c s := by
    rw [ht]
    split
    · exact .inr ⟨c, rfl⟩
    · exact .inl rfl
  cases n with
  | t1 =>
    exact hfails (raise_of_rows (ev := .t1Timeout) (fun st => st = .alignedReady ∨ st = .alignedNotReady)
      fun _ => fail .linkFailureLocal)
  | t2 => exact hfails (raise_of_rows (ev := .t2Timeout) (· = .notAligned) fun _ => fail .alignmentTimeout)
  | t3 => exact hfails (raise_of_rows (ev := .t3Timeout) (· = .aligned) fun _ => fail .provingTimeout)
  | t4 => exact absurd rfl hn

/-- Raising the expiry of one timer arms no timer but T4 (40_fsm.md R173). -/
theorem raise_timeout_not_armed {n m : TimerId} (hn : n ≠ .t4) {s : State} (hm : (getTimer m s).armed = false)
    (a : EventArg) : (getTimer m (raise (timeoutEvent n) a s)).armed = false := by
  rcases raise_timeout_cases hn a s with he | ⟨c, he⟩ <;> rw [he]
  · exact hm
  · cases m <;> rfl

/-- With one timer armed, at count 1, a tick disarms it and raises its expiry; no other timer expires. -/
theorem tickTimers_of_one_due {n : TimerId} {s : State} (hn : getTimer n s = ⟨true, 1⟩)
    (hother : ∀ m, m ≠ n → (getTimer m s).armed = false) :
    tickTimers s = raise (timeoutEvent n) EventArg.empty (setTimer n Timer.off s) := by
  have hoff (t : Timer) {m : TimerId} (hm : m ≠ n) : (getTimer m (setTimer n t s)).armed = false := by
    rw [getTimer_setTimer, if_neg hm.symm]
    exact hother m hm
  have hbefore (m : TimerId) (hm : m ≠ n) : expireTimer m (setTimer n ⟨true, 0⟩ s) = setTimer n ⟨true, 0⟩ s :=
    expireTimer_of_not_armed (hoff _ hm)
  have hafter (m : TimerId) (hm : m ≠ n) (h4 : n ≠ .t4) :
      expireTimer m (raise (timeoutEvent n) EventArg.empty (setTimer n Timer.off s)) =
        raise (timeoutEvent n) EventArg.empty (setTimer n Timer.off s) :=
    expireTimer_of_not_armed (raise_timeout_not_armed h4 (hoff _ hm) _)
  rw [tickTimers, decrementTimers_of_one_armed hn hother]
  cases n with
  | t1 => rw [expireTimer_of_due, hafter .t2 nofun nofun, hafter .t3 nofun nofun, hafter .t4 nofun nofun]
  | t2 => rw [hbefore .t1 nofun, expireTimer_of_due, hafter .t3 nofun nofun, hafter .t4 nofun nofun]
  | t3 => rw [hbefore .t1 nofun, hbefore .t2 nofun, expireTimer_of_due, hafter .t4 nofun nofun]
  | t4 => rw [hbefore .t1 nofun, hbefore .t2 nofun, hbefore .t3 nofun, expireTimer_of_due]

theorem exec_timeoutInstr (n : TimerId) : exec (timeoutInstr n) = eventOp (timeoutEvent n) EventArg.empty := by
  cases n <;> rfl

/-- Settles O41: the tick raises the event that the EVENT operation dispatches, and the two differ in the answer. -/
theorem expiryActsAsTheTimeoutEvent : Obligations.ExpiryActsAsTheTimeoutEvent := by
  intro n s hn hother
  have hframe := (setTimer_frame n Timer.off s).trans (raise_frame (timeoutEvent n) EventArg.empty _)
  refine ⟨_, (congrFun (exec_timeoutInstr n) _).trans (eventOp_eq _ _ _), ?_⟩
  rw [exec, execTimerTick, tickTimers_of_one_due hn hother, hframe.respond_eq]
  rfl

end Sys2Proof.Machine
end

section
/-! SUPPORT. POWER_OFF is entered by no operation, and left by POWER_ON and STOP only (40_fsm.md R206): the events the
receiver and the timer controller raise do not leave it. -/

namespace Sys2Proof.Machine

/-! ### No operation enters POWER_OFF -/

theorem OpEffect.ne_powerOff {s t : State} (h : s.state ≠ .powerOff) (e : OpEffect s t) : t.state ≠ .powerOff := by
  cases e with
  | unchanged => exact h
  | received b =>
    exact receiveBit_induction (P := fun u => u.state ≠ .powerOff) (fun _ _ hu => hu)
      (fun ev a _ hu => raise_ne_powerOff hu ev a) b h
  | sent => rwa [(sendBit_sendFrame s).state]
  | ticked => exact tickTimers_ne_powerOff h
  | raised ev a => exact raise_ne_powerOff h ev a
  | enqueued => exact h

theorem step_ne_powerOff {s t : State} (h : s.state ≠ .powerOff) (hstep : step s = .next t) :
    t.state ≠ .powerOff := by
  obtain ⟨cs, r, u, hu, he⟩ := step_effect s
  obtain rfl : respond r u = t := Host.Outcome.next.inj (he.symm.trans hstep)
  have hne : u.state ≠ .powerOff := OpEffect.ne_powerOff (s := { s with cmds := cs }) h hu
  exact hne

/-! ### The events the receiver raises (42_framer_rx.md R272 to R277, R285, R286) -/

/-- The events of 30_encoding.md R104 that a received bit can raise. -/
def receiverEvents : List Event :=
  [.sioRx, .sinRx, .sieRx, .siosRx, .sipoRx, .sibRx, .fisuRx, .msuRx, .correctSu, .badFrame, .octetCountErr]

theorem lssuEvent_mem {status : LssuStatus} {ev : Event} (h : lssuEvent status = some ev) : ev ∈ receiverEvents := by
  unfold lssuEvent at h
  split at h <;> cases h <;> decide

section
variable {P : State → Prop} (hrx : ∀ s r, P s → P { s with rx := r })
  (hev : ∀ ev ∈ receiverEvents, ∀ a s, P s → P (raise ev a s))
include hev

theorem frameEvent_keeps (f : List Byte) (n : Nat) {s : State} (h : P s) : P (frameEvent f n s) := by
  unfold frameEvent
  split
  · exact hev .fisuRx (by decide) _ _ h
  · split
    · split
      · next ev he => exact hev ev (lssuEvent_mem he) _ _ h
      · exact h
    · exact hev .msuRx (by decide) _ _ h

include hrx

theorem closeFrame_keeps {s : State} (h : P s) : P (closeFrame s) := by
  have hbad (u : State) (hu : P u) : P (raise .badFrame EventArg.empty u) := hev .badFrame (by decide) _ _ hu
  unfold closeFrame
  split
  · unfold closeEmptyFrame
    split
    · dsimp only
      split
      · exact hbad _ (hrx _ _ h)
      · exact hrx _ _ h
    · exact h
  · unfold closeFilledFrame
    dsimp only
    split
    · exact frameEvent_keeps hev _ _ (hev .correctSu (by decide) _ _ (hrx _ _ (hrx _ _ h)))
    · exact hbad _ (hrx _ _ h)

/-- What is kept by a change of the receiver and by the receiver's own events is kept by a received bit. -/
theorem receiveBit_keeps (b : Bool) {s : State} (h : P s) : P (receiveBit b s) := by
  have hcounted : P (countOctetBit (shiftIn b s)) := by
    rcases countOctetBit_cases (shiftIn b s) with ⟨-, he⟩ | ⟨-, -, he⟩ | ⟨-, -, he⟩ <;> rw [he]
    · exact hrx _ _ h
    · exact hrx _ _ (hrx _ _ h)
    · exact hev .octetCountErr (by decide) _ _ (hrx _ _ (hrx _ _ h))
  unfold receiveBit
  generalize countOctetBit (shiftIn b s) = u at hcounted
  have hrestarted : P (restartOctetCount u) := by
    rw [restartOctetCount_eq]
    exact hrx _ _ hcounted
  have hclosed : P (closeOpenFrame (restartOctetCount u)) := by
    unfold closeOpenFrame
    split
    · exact closeFrame_keeps hrx hev hrestarted
    · exact hrestarted
  have hstored : P (storeBit b u) := by
    unfold storeBit
    split
    · split
      · exact hev .badFrame (by decide) _ _ (hrx _ _ hcounted)
      · exact hrx _ _ hcounted
    · exact hcounted
  unfold classifyBit
  split
  · exact hrx _ _ hclosed
  · split
    · exact hrx _ _ hcounted
    · split
      · exact hcounted
      · exact hstored

end

/-! ### Only POWER_ON and STOP leave POWER_OFF -/

/-- The rows of POWER_OFF are 1 to 4, 40 and 41, and only 1 and 2 change the state (40_fsm.md R211). -/
theorem raise_of_powerOff {ev : Event} (hon : ev ≠ .powerOn) (hstop : ev ≠ .stop) (a : EventArg) {s : State}
    (h : s.state = .powerOff) : (raise ev a s).state = .powerOff := by
  have hook : monitorHook ev s = s := by
    rcases monitorHook_cases ev s with he | ⟨-, -, hs, -⟩ | ⟨-, -, hs, -⟩ | ⟨-, -, hs, -⟩
    · exact he
    all_goals rw [h] at hs; exact absurd hs nofun
  rw [raise, dispatch, hook, searchTable_eq, h]
  cases ev with
  | powerOn => exact absurd rfl hon
  | stop => exact absurd rfl hstop
  | _ => exact h

theorem receiveBit_of_powerOff (b : Bool) {s : State} (h : s.state = .powerOff) :
    (receiveBit b s).state = .powerOff := by
  refine receiveBit_keeps (P := fun u => u.state = .powerOff) (fun _ _ hu => hu) (fun ev hmem a u hu => ?_) b h
  refine raise_of_powerOff ?_ ?_ a hu <;> rintro rfl <;> exact absurd hmem (by decide)

theorem expireTimer_of_powerOff (n : TimerId) {s : State} (h : s.state = .powerOff) :
    (expireTimer n s).state = .powerOff := by
  rcases expireTimer_cases n s with he | ⟨-, -, he⟩ <;> rw [he]
  · exact h
  · exact raise_of_powerOff (by cases n <;> decide) (by cases n <;> decide) _ (by rwa [setTimer_state])

theorem tickTimers_of_powerOff {s : State} (h : s.state = .powerOff) : (tickTimers s).state = .powerOff :=
  expireTimer_of_powerOff .t4 (expireTimer_of_powerOff .t3 (expireTimer_of_powerOff .t2
    (expireTimer_of_powerOff (s := decrementTimers s) .t1 h)))

theorem eventOp_of_powerOff {ev : Event} {a : EventArg} {s t : State} (h : s.state = .powerOff)
    (he : eventOp ev a s = .next t) (hon : ev ≠ .powerOn) (hstop : ev ≠ .stop) : t.state = .powerOff := by
  cases he
  exact raise_of_powerOff hon hstop a h

/-- Every operation but two stays in POWER_OFF. -/
theorem exec_of_powerOff {s t : State} {i : Instr} (h : s.state = .powerOff) (hon : i ≠ .eventPowerOn)
    (hstop : i ≠ .eventStop) (he : exec i s = .next t) : t.state = .powerOff := by
  cases i with
  | rxBit b => cases he; exact receiveBit_of_powerOff b h
  | txBit => cases he; exact (sendBit_sendFrame s).state.trans h
  | timerTick => cases he; exact tickTimers_of_powerOff h
  | nop | reservedOp6 | reservedOp7 | reservedOp8 | reservedOp9 | reservedOpA | reservedOpB | reservedOpC | reservedOpD
  | reservedOpE | reservedOpF => cases he; exact h
  | enqueue sio data =>
    rcases execEnqueue_cases sio data s with ⟨c, hq⟩ | ⟨hservice, -⟩
    · obtain rfl := Host.Outcome.next.inj (hq.symm.trans he)
      exact h
    · exact absurd (h.symm.trans hservice) nofun
  | eventPowerOn => exact absurd rfl hon
  | eventStop => exact absurd rfl hstop
  | _ => exact eventOp_of_powerOff h he nofun nofun

/-- Settles O14; POWER_ON and STOP run the Stop action, which ends in OUT_OF_SERVICE. -/
theorem powerOffLeftOnceByPowerOnOrStop : Obligations.PowerOffLeftOnceByPowerOnOrStop := by
  obtain ⟨-, -, hstop⟩ := powerOnAndStopRunTheStopAction
  refine ⟨fun s t hstep ht => ?_, fun s t i hs hexec ht => ?_⟩
  · by_contra hs
    exact step_ne_powerOff hs hstep ht
  · obtain ⟨-, hpowerOn, hstop⟩ := hstop s
    by_cases hi : i = .eventPowerOn
    · subst hi
      obtain rfl := Host.Outcome.next.inj (hpowerOn.symm.trans hexec)
      exact ⟨rfl, .inl rfl⟩
    by_cases hi' : i = .eventStop
    · subst hi'
      obtain rfl := Host.Outcome.next.inj (hstop.symm.trans hexec)
      exact ⟨rfl, .inr rfl⟩
    exact absurd (exec_of_powerOff hs hi hi' hexec) ht

end Sys2Proof.Machine
end

section
/-! SUPPORT. TX_BIT bit by bit (41_framer_tx.md R240, R245 to R249): the eight bits of a flag, the bits of the DATA phase,
and the DATA phase as the bits of the stuffed frame; then the statements about what the transmitter sends. -/

namespace Sys2Proof.Machine

/-! ### The bits of a byte string (20_memory.md R70, 41_framer_tx.md R245) -/

theorem frameBits_cons (x : Byte) (f : List Byte) : frameBits (x :: f) = byteBits x ++ frameBits f := rfl

/-- The bits in transmission order are the frame bits of R245. -/
theorem frameBits_getElem? {f : List Byte} {k : Nat} (hk : k < 8 * f.length) :
    (frameBits f)[k]? = some (frameBit f k) := by
  induction f generalizing k with
  | nil => exact absurd hk (Nat.not_lt_zero k)
  | cons x f ih =>
    rw [frameBits_cons]
    rcases Nat.lt_or_ge k 8 with hfirst | hlater
    · have hbyte : k / 8 = 0 ∧ k % 8 = k := by omega
      rw [List.getElem?_append_left (by simpa using hfirst)]
      simp [byteBits, frameBit, hbyte, hfirst]
    · obtain ⟨j, rfl⟩ := Nat.exists_eq_add_of_le' hlater
      have hbyte : (j + 8) / 8 = j / 8 + 1 ∧ (j + 8) % 8 = j % 8 := by omega
      rw [List.getElem?_append_right (by simp), byteBits_length, Nat.add_sub_cancel,
        ih (by rw [List.length_cons] at hk; omega)]
      simp [frameBit, hbyte]

/-- The head of the bits left at a position is the frame bit there. -/
theorem frameBits_drop_eq_cons {f : List Byte} {k : Nat} {b : Bool} {rest : List Bool}
    (h : (frameBits f).drop k = b :: rest) :
    k < 8 * f.length ∧ frameBit f k = b ∧ (frameBits f).drop (k + 1) = rest := by
  have hk : k < 8 * f.length := by
    by_contra hge
    rw [List.drop_eq_nil_of_le (by simpa using Nat.not_lt.mp hge)] at h
    exact absurd h nofun
  have hhead : (frameBits f)[k]? = some b := by rw [← List.head?_drop, h, List.head?_cons]
  refine ⟨hk, Option.some.inj ((frameBits_getElem? hk).symm.trans hhead), ?_⟩
  rw [← List.tail_drop, h, List.tail_cons]

/-! ### The bits of a flag (41_framer_tx.md R246) -/

/-- What the start of a flag keeps: the transmitter but for the frame built, and the answers. -/
structure FlagStartFrame (s t : State) : Prop where
  phase : t.tx.phase = s.tx.phase := by rfl
  flagIdx : t.tx.flagIdx = s.tx.flagIdx := by rfl
  ones : t.tx.ones = s.tx.ones := by rfl
  responses : t.responses = s.responses := by rfl

theorem chooseBody_flipBib_flagStartFrame (s : State) : FlagStartFrame s (chooseBody (flipBib s)).2 := by
  rcases chooseBody_cases (flipBib s) with ⟨st, -, he⟩ | ⟨-, he, -⟩ | ⟨-, pre, e, post, -, -, -, -, he⟩ <;>
    rw [he, flipBib_eq] <;> exact {}

theorem startFlag_flagStartFrame (s : State) : FlagStartFrame s (startFlag s) := by
  unfold startFlag
  split
  · by_cases hoff : s.state = .powerOff
    · rw [buildFrame_powerOff hoff]
      exact {}
    · rw [buildFrame, if_neg hoff]
      exact { chooseBody_flipBib_flagStartFrame s with }
  · exact {}

theorem startFlag_of_powerOff {s : State} (hidx : s.tx.flagIdx = 0) (hoff : s.state = .powerOff) :
    startFlag s = { s with tx := { s.tx with haveFrame := false } } := by
  rw [startFlag, if_pos hidx, buildFrame_powerOff hoff]

theorem startFlag_of_later {s : State} (hidx : s.tx.flagIdx ≠ 0) : startFlag s = s := if_neg hidx

/-- After its first bit a flag is six 1s and a 0. -/
theorem flag_getLsbD : ∀ i : Fin 8, i ≠ 0 → Config.flag.getLsbD i = decide (i ≠ 7) := by decide

theorem advanceFlag_of_last {t : TxState} (ht : t.flagIdx = 7) :
    advanceFlag t =
      if t.haveFrame then { t with flagIdx := 0, phase := .data, pos := 0, ones := 0 } else { t with flagIdx := 0 } := by
  cases h : t.haveFrame <;> simp [advanceFlag, ht, h]

theorem advanceFlag_of_not_last {t : TxState} (ht : t.flagIdx ≠ 7) :
    advanceFlag t = { t with flagIdx := t.flagIdx + 1 } := by
  have hnext : ∀ i : Fin 8, i ≠ 7 → i + 1 ≠ 0 := by decide
  exact if_neg fun h => hnext _ ht h.1

/-- A flag bit after the first builds nothing. -/
theorem exec_txBit_of_later_flag_bit {s : State} (hflag : s.tx.phase = .flag) (hidx : s.tx.flagIdx ≠ 0) :
    exec .txBit s = .next (respond (.bit (decide (s.tx.flagIdx ≠ 7))) { s with tx := advanceFlag s.tx }) := by
  have hexec : exec .txBit s = .next (respond (.bit (sendBit s).1) (sendBit s).2) := rfl
  rw [hexec, sendBit, hflag]
  simp only [startFlag_of_later hidx, flag_getLsbD _ hidx]

/-! ### The bits of the DATA phase (41_framer_tx.md R240, R247, R249) -/

/-- What the DATA phase leaves when it has sent some bits and stands at a position after a run of 1s. -/
def dataSent (sent : List Bool) (pos ones : Nat) (s : State) : State :=
  { s with
    tx := { s.tx with
      pos := pos, ones := ones
      phase := if pos = 8 * s.tx.len ∧ ones ≠ 5 then .flag else .data }
    responses := s.responses ++ sent.map .bit }

theorem dataSent_dataSent (sent more : List Bool) (p n q m : Nat) (s : State) :
    dataSent more q m (dataSent sent p n s) = dataSent (sent ++ more) q m s := by
  simp only [dataSent, List.map_append, List.append_assoc]
  rfl

/-- A state of the DATA phase with a frame bit due is what sending nothing more leaves. -/
theorem dataSent_nil {s : State} (hdata : s.tx.phase = .data) (hmore : s.tx.pos ≠ 8 * s.tx.len) :
    dataSent [] s.tx.pos s.tx.ones s = s := by
  rw [dataSent, if_neg (fun hend => hmore hend.1), ← hdata, List.map_nil, List.append_nil]

theorem endOfFrame_of_data {t : TxState} (h : t.phase = .data) :
    endOfFrame t = { t with phase := if t.pos = 8 * t.len ∧ t.ones ≠ 5 then .flag else .data } := by
  have hphase : t = { t with phase := .data } := by rw [← h]
  unfold endOfFrame Config.stuffRun
  split
  · rfl
  · exact hphase

theorem exec_txBit_of_data {s : State} (h : s.tx.phase = .data) :
    exec .txBit s = .next (respond (.bit (dataBit s.tx)) { s with tx := endOfFrame (countDataBit s.tx) }) := by
  have hexec : exec .txBit s = .next (respond (.bit (sendBit s).1) (sendBit s).2) := rfl
  rw [hexec, sendBit, h]

/-- After five 1s a 0 is sent, and the position stays (R247). -/
theorem exec_txBit_sends_stuffed {s : State} (h : s.tx.phase = .data) (hones : s.tx.ones = 5) :
    exec .txBit s = .next (dataSent [false] s.tx.pos 0 s) := by
  have hcount : countDataBit s.tx = { s.tx with ones := 0 } := if_pos hones
  have hbit : dataBit s.tx = false := if_pos hones
  rw [exec_txBit_of_data h, hcount, hbit, endOfFrame_of_data]
  · rfl
  · exact h

/-- Otherwise the frame bit at the position is sent and counted (R245). -/
theorem exec_txBit_sends_frameBit {s : State} (h : s.tx.phase = .data) (hones : s.tx.ones ≠ 5) :
    exec .txBit s = .next (dataSent [frameBit s.tx.buf s.tx.pos] (s.tx.pos + 1)
      (if frameBit s.tx.buf s.tx.pos then s.tx.ones + 1 else 0) s) := by
  have hcount : countDataBit s.tx = { s.tx with
      pos := s.tx.pos + 1, ones := if frameBit s.tx.buf s.tx.pos then s.tx.ones + 1 else 0 } := if_neg hones
  have hbit : dataBit s.tx = frameBit s.tx.buf s.tx.pos := if_neg hones
  rw [exec_txBit_of_data h, hcount, hbit, endOfFrame_of_data]
  · rfl
  · exact h

/-! ### The DATA phase as a whole (41_framer_tx.md R248) -/

/-- After a run too short to stuff, a bit that makes it five 1s is followed by a stuffed 0, any other bit by none. -/
theorem stuffBits_cons_cases {n : Nat} (hn : n ≤ 4) (b : Bool) (bits : List Bool) :
    ((if b then n + 1 else 0) = 5 ∧ stuffBits n (b :: bits) = b :: false :: stuffBits 0 bits) ∨
    ((if b then n + 1 else 0) ≤ 4 ∧ stuffBits n (b :: bits) = b :: stuffBits (if b then n + 1 else 0) bits) := by
  by_cases hfull : (if b then n + 1 else 0) = 5
  · exact .inl ⟨hfull, if_pos hfull⟩
  · have hle : (if b then n + 1 else 0) ≤ 5 := by split <;> omega
    exact .inr ⟨by omega, if_neg hfull⟩

theorem execAll_cons_of_next {i : Instr} {s t : State} (h : exec i s = .next t) (is : List Instr) :
    execAll (i :: is) s = execAll is t := by
  rw [execAll, h]

/-- From any position of the frame, after a run too short to stuff, the bits left are sent stuffed. -/
theorem execAll_txBits_sends_stuffBits {s : State} (hlen : s.tx.len = s.tx.buf.length) (rest : List Bool) :
    ∀ (sent : List Bool) (pos ones : Nat), (frameBits s.tx.buf).drop pos = rest → pos ≤ 8 * s.tx.len → ones ≤ 4 →
      ∃ n ≤ 4, execAll (txBits (stuffBits ones rest).length) (dataSent sent pos ones s) =
        .next (dataSent (sent ++ stuffBits ones rest) (8 * s.tx.len) n s) := by
  induction rest with
  | nil =>
    intro sent pos ones hrest hpos hones
    have hend : 8 * s.tx.len ≤ pos := by simpa [hlen] using hrest
    obtain rfl : pos = 8 * s.tx.len := by omega
    exact ⟨ones, hones, by rw [stuffBits, List.append_nil]; rfl⟩
  | cons b rest ih =>
    intro sent pos ones hrest hpos hones
    obtain ⟨hmore, hbit, hrest'⟩ := frameBits_drop_eq_cons hrest
    rw [← hlen] at hmore
    have hphase : (dataSent sent pos ones s).tx.phase = .data := if_neg fun hend => by omega
    have hsend := exec_txBit_sends_frameBit hphase (by dsimp only [dataSent]; omega)
    rw [dataSent_dataSent] at hsend
    replace hsend : exec .txBit (dataSent sent pos ones s) =
        .next (dataSent (sent ++ [b]) (pos + 1) (if b then ones + 1 else 0) s) := hbit ▸ hsend
    rcases stuffBits_cons_cases hones b rest with ⟨hfull, hbits⟩ | ⟨hshort, hbits⟩ <;> rw [hbits]
    · rw [hfull] at hsend
      have hstuff := exec_txBit_sends_stuffed (s := dataSent (sent ++ [b]) (pos + 1) 5 s) (if_neg nofun) rfl
      rw [dataSent_dataSent] at hstuff
      obtain ⟨n, hn, hrun⟩ := ih (sent ++ [b] ++ [false]) (pos + 1) 0 hrest' hmore (Nat.zero_le 4)
      refine ⟨n, hn, (execAll_cons_of_next hsend _).trans ((execAll_cons_of_next hstuff _).trans (hrun.trans ?_))⟩
      simp
    · obtain ⟨n, hn, hrun⟩ := ih (sent ++ [b]) (pos + 1) _ hrest' hmore hshort
      refine ⟨n, hn, (execAll_cons_of_next hsend _).trans (hrun.trans ?_)⟩
      simp

/-! ### The statements -/

/-- Settles O47, from the first position of the frame. -/
theorem dataPhaseSendsStuffedFrame : Obligations.DataPhaseSendsStuffedFrame := by
  intro s hdata hpos hones hlen hbuf
  have hmore : s.tx.pos ≠ 8 * s.tx.len := by
    have hpositive := List.length_pos_iff.mpr hbuf
    omega
  have hstart := dataSent_nil hdata hmore
  rw [hpos, hones] at hstart
  obtain ⟨n, hn, hrun⟩ := execAll_txBits_sends_stuffBits hlen _ [] 0 0 List.drop_zero (Nat.zero_le _) (Nat.zero_le 4)
  rw [hstart] at hrun
  have hend : 8 * s.tx.len = 8 * s.tx.len ∧ n ≠ 5 := ⟨rfl, by omega⟩
  refine ⟨n, hrun.trans ?_⟩
  rw [dataSent, if_pos hend]
  rfl

/-- Settles O46: the frame ends after its last bit, unless that bit is the fifth 1 of a run. -/
theorem txBitSendsFrameBit : Obligations.TxBitSendsFrameBit := by
  intro s hdata _
  dsimp only
  split
  · next hones =>
    rw [exec_txBit_sends_stuffed hdata hones]
    simp [dataSent]
  · next hones =>
    have hfull : ∀ b : Bool, (if b then s.tx.ones + 1 else 0) ≠ 5 ↔ ¬(b = true ∧ s.tx.ones = 4) := by
      rintro (_ | _) <;> simp
    rw [exec_txBit_sends_frameBit hdata hones, dataSent]
    simp only [hfull]
    rfl

/-- Settles O42: the first bit of a flag builds the frame, or none in POWER_OFF; the last begins the frame built. -/
theorem txBitSendsFlags : Obligations.TxBitSendsFlags := by
  intro s hflag
  refine ⟨fun hidx => ?_, fun hidx hoff => ?_, fun hidx => ?_⟩
  · have hkept := startFlag_flagStartFrame s
    refine ⟨_, exec_txBit_of_startFlag hflag hidx rfl (hkept.flagIdx.trans hidx), ?_, hkept.phase.trans hflag, rfl,
      hkept.ones⟩
    rw [respond_responses, hkept.responses]
  · exact exec_txBit_of_startFlag hflag hidx (startFlag_of_powerOff hidx hoff) hidx
  · rw [exec_txBit_of_later_flag_bit hflag hidx]
    by_cases hlast : s.tx.flagIdx = 7
    · rw [advanceFlag_of_last hlast, if_pos hlast]
      rfl
    · rw [advanceFlag_of_not_last hlast, if_neg hlast]
      rfl

end Sys2Proof.Machine
end

section
/-! SUPPORT. The receiver on the bits of a stuffed frame (42_framer_rx.md R270, R271, R276): the run of 1s at the newest
end of the shift register says which bits are stored and which are discarded; then the round trip of Stuff. -/

namespace Sys2Proof.Machine

/-! ### The run of 1s in the shift register (42_framer_rx.md R271) -/

/-- The shift register with a bit shifted in. -/
def shiftedIn (b : Bool) (sr : Byte) : Byte := BitVec.ofBool b ++ sr.extractLsb' 1 7

/-- The newest bits of the shift register are `n` 1s, after a 0. -/
structure EndsInRun (n : Nat) (sr : Byte) : Prop where
  ones : ∀ i < 8, 7 < i + n → sr.getLsbD i = true
  zero : ∀ i, i + n = 7 → sr.getLsbD i = false

theorem shiftedIn_getLsbD_newest (b : Bool) (sr : Byte) : (shiftedIn b sr).getLsbD 7 = b := by
  rw [shiftedIn, BitVec.getLsbD_append]
  simp

theorem shiftedIn_getLsbD_older (b : Bool) (sr : Byte) {i : Nat} (hi : i < 7) :
    (shiftedIn b sr).getLsbD i = sr.getLsbD (i + 1) := by
  rw [shiftedIn, BitVec.getLsbD_append]
  simp [hi, Nat.add_comm]

theorem endsInRun_zero {sr : Byte} (h : sr.getLsbD 7 = false) : EndsInRun 0 sr where
  ones := fun i hi hlate => by omega
  zero := fun i hi => by obtain rfl : i = 7 := hi; exact h

/-- A 1 lengthens the run, a 0 ends it. -/
theorem EndsInRun.shifted {n : Nat} {sr : Byte} (h : EndsInRun n sr) (hn : n ≤ 5) (b : Bool) :
    EndsInRun (if b then n + 1 else 0) (shiftedIn b sr) := by
  cases b with
  | false => exact endsInRun_zero (shiftedIn_getLsbD_newest false sr)
  | true =>
    refine ⟨fun i hi (hlate : 7 < i + (n + 1)) => ?_, fun i (hi : i + (n + 1) = 7) => ?_⟩
    · rcases Nat.lt_succ_iff_lt_or_eq.mp hi with holder | rfl
      · rw [shiftedIn_getLsbD_older true sr holder]
        exact h.ones _ (by omega) (by omega)
      · exact shiftedIn_getLsbD_newest true sr
    · rw [shiftedIn_getLsbD_older true sr (by omega)]
      exact h.zero _ (by omega)

theorem EndsInRun.shiftedIn_zero {n : Nat} {sr : Byte} (h : EndsInRun n sr) (b : Bool) {i : Nat} (hi : i + n = 6) :
    (shiftedIn b sr).getLsbD i = false := by
  rw [shiftedIn_getLsbD_older b sr (by omega)]
  exact h.zero _ (by omega)

/-- The 0 before a run of at most five 1s meets one of the bits 1 to 6, which are 1s in a flag and in an abort. -/
theorem EndsInRun.shiftedIn_ne {n : Nat} {sr : Byte} (h : EndsInRun n sr) (hn : n ≤ 5) (b : Bool) {x : Byte}
    (hx : ∀ i < 7, 0 < i → x.getLsbD i = true) : (shiftedIn b sr == x) = false := by
  rw [beq_eq_false_iff_ne]
  rintro rfl
  have hzero := h.shiftedIn_zero b (i := 6 - n) (by omega)
  rw [hx (6 - n) (by omega) (by omega)] at hzero
  exact Bool.noConfusion hzero

theorem flag_getLsbD_middle : ∀ i < 7, 0 < i → Config.flag.getLsbD i = true := by decide

theorem EndsInRun.shiftedIn_not_flag {n : Nat} {sr : Byte} (h : EndsInRun n sr) (hn : n ≤ 5) (b : Bool) :
    flagInSr (shiftedIn b sr) = false := h.shiftedIn_ne hn b flag_getLsbD_middle

theorem EndsInRun.shiftedIn_not_abort {n : Nat} {sr : Byte} (h : EndsInRun n sr) (hn : n ≤ 5) (b : Bool) :
    abortInSr (shiftedIn b sr) = false := h.shiftedIn_ne hn b (by decide)

/-- A stuffed 0 is a 0 after five 1s (R276). -/
theorem stuffedInSr_iff (sr : Byte) :
    stuffedInSr sr = true ↔ sr.getLsbD 7 = false ∧ ∀ i < 7, 2 ≤ i → sr.getLsbD i = true := by
  rw [stuffedInSr, beq_iff_eq, BitVec.eq_of_getLsbD_eq_iff]
  simp only [BitVec.getLsbD_and, Nat.forall_lt_succ_right]
  simp [and_comm]

/-- The 0 shifted in after a run is a stuffed one just when the run is of five 1s. -/
theorem EndsInRun.shiftedIn_stuffed_iff {n : Nat} {sr : Byte} (h : EndsInRun n sr) (hn : n ≤ 5) (b : Bool) :
    stuffedInSr (shiftedIn b sr) = true ↔ n = 5 ∧ b = false := by
  rw [stuffedInSr_iff, shiftedIn_getLsbD_newest]
  constructor
  · rintro ⟨rfl, hones⟩
    refine ⟨?_, rfl⟩
    by_contra hshort
    have hzero := h.shiftedIn_zero false (i := 6 - n) (by omega)
    rw [hones (6 - n) (by omega) (by omega)] at hzero
    exact Bool.noConfusion hzero
  · rintro ⟨rfl, rfl⟩
    refine ⟨rfl, fun i hi hlow => ?_⟩
    rw [shiftedIn_getLsbD_older false sr hi]
    exact h.ones _ (by omega) (by omega)

/-- A 0 after six 1s and a 0 completes a flag (R273). -/
theorem EndsInRun.shiftedIn_flag {sr : Byte} (h : EndsInRun 6 sr) : shiftedIn false sr = 0x7E := by
  refine BitVec.eq_of_getLsbD_eq fun i hi => ?_
  rcases (by omega : i = 0 ∨ (1 ≤ i ∧ i < 7) ∨ i = 7) with rfl | ⟨hlow, hhigh⟩ | rfl
  · exact h.shiftedIn_zero false rfl
  · rw [shiftedIn_getLsbD_older false sr hhigh, h.ones _ (by omega) (by omega)]
    exact (flag_getLsbD_middle i hhigh hlow).symm
  · exact shiftedIn_getLsbD_newest false sr

/-! ### RX_BIT in an open frame (42_framer_rx.md R270, R276, R277) -/

/-- The receiver with a given shift register and store, after a number of RX_BIT operations that raised nothing. -/
def bitsStored (sr : Byte) (bits : List Bool) (count : Nat) (s : State) : State :=
  { s with
    rx := { s.rx with sr := sr, bits := bits, nbits := bits.length }
    responses := s.responses ++ List.replicate count .ok }

theorem respond_bitsStored (sr : Byte) (bits : List Bool) (count : Nat) (s : State) :
    respond .ok (bitsStored sr bits count s) = bitsStored sr bits (count + 1) s := by
  simp only [respond, bitsStored, List.replicate_succ', List.append_assoc]

theorem storeBit_bitsStored {s : State} (hframe : s.rx.inFrame = true) {bits : List Bool}
    (hroom : bits.length < rxBitLimit s) (b : Bool) (sr : Byte) (count : Nat) :
    storeBit b (bitsStored sr bits count s) = bitsStored sr (bits ++ [b]) count s := by
  have hstore : storeBit b (bitsStored sr bits count s) =
      { bitsStored sr bits count s with
        rx := { s.rx with sr := sr, bits := bits ++ [b], nbits := bits.length + 1 } } :=
    (if_pos hframe).trans (if_neg hroom.ne)
  rw [hstore, bitsStored, bitsStored, List.length_append, List.length_singleton]

theorem execAll_append_of_next {is : List Instr} {s t : State} (h : execAll is s = .next t) (js : List Instr) :
    execAll (is ++ js) s = execAll js t := by
  induction is generalizing s with
  | nil =>
    obtain rfl : s = t := Host.Outcome.next.inj h
    rfl
  | cons i is ih =>
    rw [List.cons_append, execAll]
    rw [execAll] at h
    cases hi : exec i s with
    | next u =>
      rw [hi] at h
      exact ih h
    | fault r => exact nomatch r
    | refused r =>
      rw [hi] at h
      exact nomatch h

section
variable {s : State} (hoc : s.rx.ocActive = false)
include hoc

/-- Outside octet counting a bit is shifted in, and the run it meets tells whether it is a stuffed 0 or stored. -/
theorem exec_rxBit_bitsStored {sr : Byte} {n : Nat} (hrun : EndsInRun n sr) (hn : n ≤ 5) (b : Bool) (bits : List Bool)
    (count : Nat) :
    exec (.rxBit b) (bitsStored sr bits count s) = .next (respond .ok
      (if n = 5 ∧ b = false then bitsStored (shiftedIn b sr) bits count s
        else storeBit b (bitsStored (shiftedIn b sr) bits count s))) := by
  have hexec : exec (.rxBit b) (bitsStored sr bits count s) =
      .next (respond .ok (receiveBit b (bitsStored sr bits count s))) := rfl
  have hcount : countOctetBit (shiftIn b (bitsStored sr bits count s)) = bitsStored (shiftedIn b sr) bits count s := by
    have hidle : ¬(shiftIn b (bitsStored sr bits count s)).rx.ocActive = true := fun h =>
      absurd (hoc.symm.trans h) nofun
    exact if_neg hidle
  have hflag : flagInSr (bitsStored (shiftedIn b sr) bits count s).rx.sr = false := hrun.shiftedIn_not_flag hn b
  have habort : abortInSr (bitsStored (shiftedIn b sr) bits count s).rx.sr = false := hrun.shiftedIn_not_abort hn b
  have hstuffed : stuffedInSr (bitsStored (shiftedIn b sr) bits count s).rx.sr = true ↔ n = 5 ∧ b = false :=
    hrun.shiftedIn_stuffed_iff hn b
  rw [hexec, receiveBit, hcount, classifyBit, hflag, habort]
  simp only [hstuffed, Bool.false_eq_true, if_false]

/-- The 0 after five 1s is discarded (R276). -/
theorem exec_rxBit_discards_stuffed {sr : Byte} (hrun : EndsInRun 5 sr) (bits : List Bool) (count : Nat) :
    exec (.rxBit false) (bitsStored sr bits count s) =
      .next (bitsStored (shiftedIn false sr) bits (count + 1) s) := by
  rw [exec_rxBit_bitsStored hoc hrun le_rfl, if_pos ⟨rfl, rfl⟩, respond_bitsStored]

variable (hframe : s.rx.inFrame = true)
include hframe

/-- Any other bit after at most five 1s is stored while there is room (R277). -/
theorem exec_rxBit_stores {sr : Byte} {n : Nat} (hrun : EndsInRun n sr) (hn : n ≤ 5) {b : Bool}
    (hb : n = 5 → b = true) {bits : List Bool} (hroom : bits.length < rxBitLimit s) (count : Nat) :
    exec (.rxBit b) (bitsStored sr bits count s) =
      .next (bitsStored (shiftedIn b sr) (bits ++ [b]) (count + 1) s) := by
  have hnot : ¬(n = 5 ∧ b = false) := fun ⟨h5, hfalse⟩ => absurd (hfalse.symm.trans (hb h5)) nofun
  rw [exec_rxBit_bitsStored hoc hrun hn, if_neg hnot, storeBit_bitsStored hframe hroom, respond_bitsStored]

/-- The stuffed bits of a string leave the string itself, after at most four 1s. -/
theorem execAll_rxBits_stuffBits (rest : List Bool) :
    ∀ {sr : Byte} {n : Nat} (bits : List Bool) (count : Nat), EndsInRun n sr → n ≤ 4 →
      bits.length + rest.length ≤ rxBitLimit s →
      ∃ sr' m, EndsInRun m sr' ∧ m ≤ 4 ∧ execAll (rxBits (stuffBits n rest)) (bitsStored sr bits count s) =
        .next (bitsStored sr' (bits ++ rest) (count + (stuffBits n rest).length) s) := by
  induction rest with
  | nil =>
    intro sr n bits count hrun hn _
    exact ⟨sr, n, hrun, hn, by rw [List.append_nil]; rfl⟩
  | cons b rest ih =>
    intro sr n bits count hrun hn hroom
    rw [List.length_cons] at hroom
    have hstore := exec_rxBit_stores hoc hframe hrun (by omega) (b := b) (by omega) (bits := bits) (by omega) count
    have hshifted := hrun.shifted (by omega) b
    have hroom' : (bits ++ [b]).length + rest.length ≤ rxBitLimit s := by
      rw [List.length_append, List.length_singleton]; omega
    rcases stuffBits_cons_cases hn b rest with ⟨hfull, hbits⟩ | ⟨hshort, hbits⟩ <;> rw [hbits]
    · rw [hfull] at hshifted
      have hdiscard := exec_rxBit_discards_stuffed hoc hshifted (bits ++ [b]) (count + 1)
      obtain ⟨sr', m, hrun', hm, hrest⟩ := ih (bits ++ [b]) (count + 1 + 1) (hshifted.shifted le_rfl false)
        (Nat.zero_le 4) hroom'
      refine ⟨sr', m, hrun', hm, ?_⟩
      refine (execAll_cons_of_next hstore _).trans ((execAll_cons_of_next hdiscard _).trans (hrest.trans ?_))
      simp [Nat.add_assoc, Nat.add_comm 2]
    · obtain ⟨sr', m, hrun', hm, hrest⟩ := ih (bits ++ [b]) (count + 1) hshifted hshort hroom'
      refine ⟨sr', m, hrun', hm, (execAll_cons_of_next hstore _).trans (hrest.trans ?_)⟩
      simp [Nat.add_assoc, Nat.add_comm 1]

/-- A run of at most six 1s is stored. -/
theorem execAll_rxBits_ones (k : Nat) :
    ∀ {sr : Byte} {n : Nat} (bits : List Bool) (count : Nat), EndsInRun n sr → n + k ≤ 6 →
      bits.length + k ≤ rxBitLimit s →
      ∃ sr', EndsInRun (n + k) sr' ∧ execAll (rxBits (List.replicate k true)) (bitsStored sr bits count s) =
        .next (bitsStored sr' (bits ++ List.replicate k true) (count + k) s) := by
  induction k with
  | zero =>
    intro sr n bits count hrun _ _
    exact ⟨sr, hrun, by rw [List.replicate_zero, List.append_nil]; rfl⟩
  | succ k ih =>
    intro sr n bits count hrun hn hroom
    have hstore := exec_rxBit_stores hoc hframe hrun (by omega) (b := true) (fun _ => rfl) (bits := bits) (by omega)
      count
    obtain ⟨sr', hrun', hrest⟩ := ih (bits ++ [true]) (count + 1) (hrun.shifted (by omega) true)
      (by rw [if_pos rfl]; omega) (by rw [List.length_append, List.length_singleton]; omega)
    refine ⟨sr', ?_, (execAll_cons_of_next hstore _).trans (hrest.trans ?_)⟩
    · rwa [if_pos rfl, Nat.add_assoc, Nat.add_comm 1] at hrun'
    · simp [List.replicate_succ, Nat.add_assoc, Nat.add_comm 1]

/-- All of a flag but its last bit is stored after at most four 1s (R274). -/
theorem execAll_rxBits_flag {sr : Byte} {n : Nat} (hrun : EndsInRun n sr) (hn : n ≤ 4) {bits : List Bool}
    (hroom : bits.length + 7 ≤ rxBitLimit s) (count : Nat) :
    ∃ sr', EndsInRun 6 sr' ∧
      execAll (rxBits [false, true, true, true, true, true, true]) (bitsStored sr bits count s) =
        .next (bitsStored sr' (bits ++ [false, true, true, true, true, true, true]) (count + 7) s) := by
  have hzero := exec_rxBit_stores hoc hframe hrun (by omega) (b := false) (by omega) (bits := bits) (by omega) count
  obtain ⟨sr', hrun', hones⟩ := execAll_rxBits_ones hoc hframe 6 (bits ++ [false]) (count + 1)
    (hrun.shifted (by omega) false) le_rfl (by rw [List.length_append, List.length_singleton]; omega)
  refine ⟨sr', hrun', (execAll_cons_of_next hzero _).trans (hones.trans ?_)⟩
  rw [List.append_assoc, Nat.add_assoc]
  rfl

end

/-! ### The statement -/

/-- Settles O54: the receiver undoes Stuff bit by bit, then stores all of the closing flag but its last bit. -/
theorem receiverRecoversStuffedFrame : Obligations.ReceiverRecoversStuffedFrame := by
  intro s f hsr hframe hbits hnbits hoc hlen
  have hstart : bitsStored s.rx.sr s.rx.bits 0 s = s := by
    rw [bitsStored, List.replicate_zero, List.append_nil, hbits, List.length_nil, ← hbits, ← hnbits]
  rw [hsr, hbits] at hstart
  have hroom : (frameBits f).length + 7 ≤ rxBitLimit s := by
    rw [frameBits_length, rxBitLimit]; omega
  obtain ⟨sr, n, hrun, hn, hstuffed⟩ := execAll_rxBits_stuffBits hoc hframe (frameBits f) [] 0
    (endsInRun_zero (sr := 0x7E) rfl) (Nat.zero_le 4) (by rw [List.length_nil]; omega)
  obtain ⟨sr', hrun', hflag⟩ := execAll_rxBits_flag hoc hframe hrun hn hroom (stuff f).length
  rw [hstart, List.nil_append, Nat.zero_add] at hstuffed
  refine ⟨bitsStored sr' (frameBits f ++ [false, true, true, true, true, true, true]) ((stuff f).length + 7) s, ?_,
    ⟨hframe, rfl, rfl⟩, bytesOfBits_frameBits_append f _,
    ⟨hrun'.shiftedIn_flag, fun h => absurd (hoc.symm.trans h.1) nofun⟩, rfl⟩
  rw [rxBits, List.map_append]
  exact (execAll_append_of_next hstuffed _).trans hflag

end Sys2Proof.Machine
end

section
/-! SUPPORT. The two halves of the framer are independent (42_framer_rx.md R289): RX_BIT commutes with every change that
neither the receiver nor an event reads, and TX_BIT with a change of the receiver; then the statement. -/

namespace Sys2Proof.Machine

/-! ### RX_BIT and what is beside the receiver -/

/-- A change of the state beside the receiver and the parameters that commutes with every event. -/
structure BesideReceiver (g : State → State) : Prop where
  rx : ∀ s, (g s).rx = s.rx
  params : ∀ s, (g s).params = s.params
  update : ∀ s r, { g s with rx := r } = g { s with rx := r }
  commute_raise : ∀ ev a, Function.Commute (raise ev a) g

/-- Another transmitter is beside the receiver. -/
theorem withTx_besideReceiver (x : TxState) : BesideReceiver fun s => { s with tx := x } where
  rx := fun _ => rfl
  params := fun _ => rfl
  update := fun _ _ => rfl
  commute_raise := fun ev a s => by
    have hother := raise_ignoresFramer ev a s x s.rx
    rw [State.withFramer, ← raise_rx ev a s] at hother
    simpa [State.withFramer] using hother

/-- An answer to the host is beside the receiver. -/
theorem respond_besideReceiver (r : Response) : BesideReceiver (respond r) where
  rx := fun _ => rfl
  params := fun _ => rfl
  update := fun _ _ => rfl
  commute_raise := fun ev a s => by
    have hports := raise_ignoresPorts ev a s s.cmds (s.responses ++ [r])
    rw [← raise_cmds ev a s, ← raise_responses ev a s] at hports
    simpa [State.withPorts, respond] using hports

/-- An abort drops the open frame and starts octet counting, with a count under way kept (42_framer_rx.md R275). -/
theorem abortReceived_eq (s : State) :
    abortReceived s = { s with
      rx := { clearStore s.rx with
        inFrame := false, flagRun := 0, ocActive := true, ocBits := if s.rx.ocActive then s.rx.ocBits else 0 } } := by
  cases h : s.rx.ocActive <;> simp [abortReceived, clearStore, h]

namespace BesideReceiver
variable {g : State → State} (hg : BesideReceiver g)
include hg

/-- A choice between two operations, made by the receiver and the parameters. -/
theorem commute_ite {f f' : State → State} (p : RxState → Config.Params → Prop) [∀ r c, Decidable (p r c)]
    (hf : Function.Commute f g) (hf' : Function.Commute f' g) :
    Function.Commute (fun s => if p s.rx s.params then f s else f' s) g := by
  intro s
  by_cases h : p s.rx s.params
  · simp only [hg.rx, hg.params, if_pos h, hf s]
  · simp only [hg.rx, hg.params, if_neg h, hf' s]

/-- A write of the receiver, computed from the receiver. -/
theorem commute_set_rx (w : RxState → RxState) : Function.Commute (fun s => { s with rx := w s.rx }) g := fun s => by
  simp only [hg.rx, hg.update]

/-- An event raised after a write of the receiver. -/
theorem commute_raise_set_rx (ev : Event) (a : EventArg) (w : RxState → RxState) :
    Function.Commute (fun s => raise ev a { s with rx := w s.rx }) g :=
  (hg.commute_raise ev a).comp_left (hg.commute_set_rx w)

theorem commute_countOctetBit : Function.Commute countOctetBit g :=
  hg.commute_ite (fun r _ => r.ocActive = true)
    (hg.commute_ite (fun r _ => r.ocBits + 1 = Config.octetCountBits)
      (hg.commute_raise_set_rx .octetCountErr EventArg.empty fun r => { r with ocBits := 0 })
      (hg.commute_set_rx fun r => { r with ocBits := r.ocBits + 1 }))
    .id_left

theorem commute_closeEmptyFrame : Function.Commute closeEmptyFrame g :=
  hg.commute_ite (fun r c => r.flagRun < max c.flagLimit 1)
    (hg.commute_ite (fun r c => c.flagLimit ≠ 0 ∧ r.flagRun + 1 = c.flagLimit)
      (hg.commute_raise_set_rx .badFrame EventArg.empty fun r => { r with flagRun := r.flagRun + 1 })
      (hg.commute_set_rx fun r => { r with flagRun := r.flagRun + 1 }))
    .id_left

theorem commute_goodFrame (f : List Byte) (n : Nat) : Function.Commute (goodFrame f n) g := by
  have hown : Function.Commute (frameEvent f n) g := by
    rcases frameEvent_cases f n with h | ⟨ev, a, h⟩ <;> rw [h]
    · exact .id_left
    · exact hg.commute_raise ev a
  exact hown.comp_left
    (hg.commute_raise_set_rx .correctSu EventArg.empty fun r => { r with ocActive := false, ocBits := 0 })

theorem commute_closeFilledFrame (nb : Nat) : Function.Commute (closeFilledFrame nb) g := by
  have hrun := hg.commute_set_rx fun r => { r with flagRun := 0 }
  refine hg.commute_ite (fun r c => frameOk c.crc16 nb (bytesOfBits r.bits (nb / 8)) = true) (fun s => ?_)
    ((hg.commute_raise .badFrame EventArg.empty).comp_left hrun)
  have hgood := (hg.commute_goodFrame (bytesOfBits s.rx.bits (nb / 8)) (nb / 8)).comp_left hrun s
  simpa only [Function.comp_apply, hg.rx s] using hgood

theorem commute_closeFrame : Function.Commute closeFrame g :=
  hg.commute_ite (fun r _ => r.nbits ≤ 7) hg.commute_closeEmptyFrame fun s => by
    simpa only [hg.rx s] using hg.commute_closeFilledFrame (s.rx.nbits - 7) s

theorem commute_flagReceived : Function.Commute flagReceived g := by
  have hrestart : Function.Commute restartOctetCount g :=
    hg.commute_ite (fun r _ => r.ocActive = true) (hg.commute_set_rx fun r => { r with ocBits := 0 }) .id_left
  have hclose : Function.Commute closeOpenFrame g :=
    hg.commute_ite (fun r _ => r.inFrame = true) hg.commute_closeFrame .id_left
  have hopen : Function.Commute openFrame g := hg.commute_set_rx fun r => { clearStore r with inFrame := true }
  exact hopen.comp_left (hclose.comp_left hrestart)

theorem commute_storeBit (b : Bool) : Function.Commute (storeBit b) g :=
  hg.commute_ite (fun r _ => r.inFrame = true)
    (hg.commute_ite (fun r c => r.nbits = 8 * c.rxMaxBytes + 7)
      (hg.commute_raise_set_rx .badFrame EventArg.empty fun r => { clearStore r with inFrame := false, flagRun := 0 })
      (hg.commute_set_rx fun r => { r with bits := r.bits ++ [b], nbits := r.nbits + 1 }))
    .id_left

theorem commute_classifyBit (b : Bool) : Function.Commute (classifyBit b) g := by
  have habort : Function.Commute abortReceived g := by
    rw [funext abortReceived_eq]
    exact hg.commute_set_rx fun r => { clearStore r with
      inFrame := false, flagRun := 0, ocActive := true, ocBits := if r.ocActive then r.ocBits else 0 }
  exact hg.commute_ite (fun r _ => flagInSr r.sr = true) hg.commute_flagReceived
    (hg.commute_ite (fun r _ => abortInSr r.sr = true) habort
      (hg.commute_ite (fun r _ => stuffedInSr r.sr = true) .id_left (hg.commute_storeBit b)))

theorem commute_receiveBit (b : Bool) : Function.Commute (receiveBit b) g :=
  (hg.commute_classifyBit b).comp_left (hg.commute_countOctetBit.comp_left
    (hg.commute_set_rx fun r => { r with sr := shiftedIn b r.sr }))

end BesideReceiver

theorem receiveBit_tx (b : Bool) (s : State) : (receiveBit b s).tx = s.tx :=
  receiveBit_induction (P := fun t => t.tx = s.tx) (fun _ _ h => h) (fun ev a t h => (raise_tx ev a t).trans h) b rfl

/-! ### TX_BIT and the receiver -/

theorem chooseBody_withRx (s : State) (x : RxState) :
    chooseBody { s with rx := x } = ((chooseBody s).1, { (chooseBody s).2 with rx := x }) := by
  rcases chooseBody_cases s with ⟨status, hlssu, he⟩ | ⟨hlssu, he, hnone⟩ |
    ⟨hlssu, pre, e, post, hlen, hqueue, hpre, hseq, he⟩ <;> rw [he]
  · exact chooseBody_of_lssu hlssu
  · exact chooseBody_of_select_none hlssu (select_of_none_due hnone)
  · exact chooseBody_of_select_some hlssu (select_of_due hqueue hlen hpre hseq)

theorem buildFrame_withRx (s : State) (x : RxState) :
    buildFrame { s with rx := x } = ((buildFrame s).1, { (buildFrame s).2 with rx := x }) := by
  by_cases hoff : s.state = .powerOff
  · rw [buildFrame_powerOff hoff]
    exact buildFrame_powerOff hoff
  · have hflip : flipBib { s with rx := x } = { flipBib s with rx := x } := by simp only [flipBib_eq]
    rw [buildFrame, if_neg hoff, buildFrame, if_neg hoff, hflip, chooseBody_withRx]

theorem startFlag_withRx (s : State) (x : RxState) :
    startFlag { s with rx := x } = { startFlag s with rx := x } := by
  unfold startFlag
  split
  · rw [buildFrame_withRx]
  · rfl

theorem sendBit_withRx (s : State) (x : RxState) :
    sendBit { s with rx := x } = ((sendBit s).1, { (sendBit s).2 with rx := x }) := by
  cases hphase : s.tx.phase <;> simp only [sendBit, hphase, startFlag_withRx]

/-! ### The statement -/

/-- Settles O16: each half of the framer commutes with any change of the other one. -/
theorem receiverAndTransmitterIndependent : Obligations.ReceiverAndTransmitterIndependent := by
  refine ⟨fun b s t x h => ?_, fun s t x h => ?_⟩
  · obtain rfl : respond .ok (receiveBit b s) = t := Host.Outcome.next.inj h
    refine ⟨receiveBit_tx b s, ?_⟩
    show Host.Outcome.next (respond .ok (receiveBit b { s with tx := x })) = _
    rw [(withTx_besideReceiver x).commute_receiveBit b s]
    rfl
  · obtain rfl : respond (.bit (sendBit s).1) (sendBit s).2 = t := Host.Outcome.next.inj h
    refine ⟨(sendBit_sendFrame s).rx, ?_⟩
    show Host.Outcome.next (respond (.bit (sendBit { s with rx := x }).1) (sendBit { s with rx := x }).2) = _
    rw [sendBit_withRx]
    rfl

end Sys2Proof.Machine
end

section
/-! SUPPORT. RX_BIT by what the shift register shows (42_framer_rx.md R270 to R277, R288): the bit counted and then
classified, the frame bit stored, the flag that closes an empty or a bad frame, and the events these raise; then the
statements. -/

namespace Sys2Proof.Machine

/-! ### A bit counted and classified (42_framer_rx.md R270, R272) -/

/-- The state with the bit shifted in, and counted in octet-counting mode. -/
def bitCounted (b : Bool) (s : State) : State :=
  { s with
    rx := { s.rx with
      sr := shiftedIn b s.rx.sr, ocBits := if s.rx.ocActive then s.rx.ocBits + 1 else s.rx.ocBits } }

/-- A bit that completes no octet-count window is only counted before it is classified. -/
theorem receiveBit_of_no_window (b : Bool) {s : State} (h : ¬(s.rx.ocActive = true ∧ s.rx.ocBits = 127)) :
    receiveBit b s = classifyBit b (bitCounted b s) :=
  congrArg (classifyBit b) (countOctetBit_of_no_window (s := shiftIn b s) h)

/-- The bit that completes an octet-count window is classified after OCTET_COUNT_ERR. -/
theorem receiveBit_of_window (b : Bool) {s : State} (hactive : s.rx.ocActive = true) (hfull : s.rx.ocBits = 127) :
    receiveBit b s = classifyBit b (raise .octetCountErr EventArg.empty { s with
      rx := { s.rx with sr := shiftedIn b s.rx.sr, ocBits := 0 } }) := by
  rcases countOctetBit_cases (shiftIn b s) with ⟨hidle, -⟩ | ⟨-, hnot, -⟩ | ⟨-, -, he⟩
  · exact absurd (hidle.symm.trans hactive) nofun
  · exact absurd (congrArg (· + 1) hfull) hnot
  · exact congrArg (classifyBit b) he

section
variable (b : Bool) {s : State}

theorem flagInSr_eq_false {sr : Byte} (h : sr ≠ 0x7E) : flagInSr sr = false := beq_eq_false_iff_ne.mpr h

theorem abortInSr_eq_false {sr : Byte} (h : sr ≠ 0xFE) : abortInSr sr = false := beq_eq_false_iff_ne.mpr h

theorem classifyBit_of_abort (habort : s.rx.sr = 0xFE) : classifyBit b s = abortReceived s := by
  rw [classifyBit, habort]
  rfl

variable (hflag : s.rx.sr ≠ 0x7E)
include hflag

theorem classifyBit_of_stuffed (hstuffed : s.rx.sr &&& 0xFC = 0x7C) : classifyBit b s = s := by
  have habort : s.rx.sr ≠ 0xFE := fun h => absurd (h ▸ hstuffed) (by decide)
  have hdiscarded : stuffedInSr s.rx.sr = true := beq_iff_eq.mpr hstuffed
  simp [classifyBit, flagInSr_eq_false hflag, abortInSr_eq_false habort, hdiscarded]

variable (habort : s.rx.sr ≠ 0xFE)
include habort

theorem classifyBit_of_frameBit (hstuffed : s.rx.sr &&& 0xFC ≠ 0x7C) : classifyBit b s = storeBit b s := by
  have hkept : stuffedInSr s.rx.sr = false := beq_eq_false_iff_ne.mpr hstuffed
  simp [classifyBit, flagInSr_eq_false hflag, abortInSr_eq_false habort, hkept]

/-- A frame bit received while hunting is dropped (42_framer_rx.md R277). -/
theorem classifyBit_of_hunting (hframe : s.rx.inFrame = false) : classifyBit b s = s := by
  by_cases hstuffed : s.rx.sr &&& 0xFC = 0x7C
  · exact classifyBit_of_stuffed b hflag hstuffed
  · simp [classifyBit_of_frameBit b hflag habort hstuffed, storeBit, hframe]

variable (hstuffed : s.rx.sr &&& 0xFC ≠ 0x7C) (hframe : s.rx.inFrame = true)
include hstuffed hframe

theorem classifyBit_of_room (hroom : s.rx.nbits ≠ 8 * s.params.rxMaxBytes + 7) :
    classifyBit b s = { s with rx := { s.rx with bits := s.rx.bits ++ [b], nbits := s.rx.nbits + 1 } } := by
  rw [classifyBit_of_frameBit b hflag habort hstuffed, storeBit, if_pos hframe, rxBitLimit, if_neg hroom]

theorem classifyBit_of_full (hfull : s.rx.nbits = 8 * s.params.rxMaxBytes + 7) :
    classifyBit b s = raise .badFrame EventArg.empty { s with
      rx := { clearStore s.rx with inFrame := false, flagRun := 0 } } := by
  rw [classifyBit_of_frameBit b hflag habort hstuffed, storeBit, if_pos hframe, rxBitLimit, if_pos hfull]

end

/-! ### A flag that closes an empty frame or a bad one (42_framer_rx.md R273, R274, R284, R288) -/

theorem closeFrame_of_silent {s : State} (hempty : s.rx.nbits ≤ 7)
    (hsilent : s.params.flagLimit = 0 ∨ s.rx.flagRun + 1 ≠ s.params.flagLimit) :
    closeFrame s = { s with
      rx := { s.rx with
        flagRun := if s.rx.flagRun < max s.params.flagLimit 1 then s.rx.flagRun + 1 else s.rx.flagRun } } := by
  have hnot : ¬(s.params.flagLimit ≠ 0 ∧ s.rx.flagRun + 1 = s.params.flagLimit) := by tauto
  rw [closeFrame, if_pos hempty, closeEmptyFrame]
  split
  · exact if_neg hnot
  · rfl

theorem closeFrame_of_limit {s : State} (hempty : s.rx.nbits ≤ 7) (hlimit : s.params.flagLimit ≠ 0)
    (hrun : s.rx.flagRun + 1 = s.params.flagLimit) :
    closeFrame s = raise .badFrame EventArg.empty { s with rx := { s.rx with flagRun := s.rx.flagRun + 1 } } := by
  have hcounted : s.rx.flagRun < max s.params.flagLimit 1 := by omega
  rw [closeFrame, if_pos hempty, closeEmptyFrame, if_pos hcounted]
  exact if_pos ⟨hlimit, hrun⟩

/-- A frame that is no whole number of bytes, or whose bytes do not pass the checks, is not good. -/
theorem frameOk_eq_false {s : State} (hbad : (s.rx.nbits - 7) % 8 ≠ 0 ∨
    ∃ f, holdsFrame s f ∧ ¬passesChecks s.params.crc16 f) :
    frameOk s.params.crc16 (s.rx.nbits - 7) (bytesOfBits s.rx.bits ((s.rx.nbits - 7) / 8)) = false := by
  rcases hbad with hpart | ⟨f, ⟨-, hbits, hnbits⟩, hfails⟩
  · simp [frameOk, hpart]
  · have hnb : s.rx.nbits - 7 = 8 * f.length := by simp [hnbits, hbits]
    have hbytes : 8 * f.length / 8 = f.length := Nat.mul_div_cancel_left _ (by decide)
    rw [hnb, hbytes, hbits, bytesOfBits_frameBits_append]
    exact Bool.eq_false_of_not_eq_true (mt (frameOk_iff _ f).mp hfails)

theorem closeFrame_of_bad {s : State} (hfilled : 8 ≤ s.rx.nbits)
    (hbad : frameOk s.params.crc16 (s.rx.nbits - 7) (bytesOfBits s.rx.bits ((s.rx.nbits - 7) / 8)) = false) :
    closeFrame s = raise .badFrame EventArg.empty { s with rx := { s.rx with flagRun := 0 } } := by
  rw [closeFrame, if_neg (by omega), closeFilledFrame, hbad]
  rfl

/-! ### What RX_BIT leaves -/

theorem receiveBit_responses (b : Bool) (s : State) : (receiveBit b s).responses = s.responses :=
  receiveBit_induction (P := fun t => t.responses = s.responses) (fun _ _ h => h)
    (fun ev a t h => (raise_responses ev a t).trans h) b rfl

theorem exec_rxBit (b : Bool) (s : State) :
    exec (.rxBit b) s = .next { receiveBit b s with responses := s.responses ++ [.ok] } := by
  rw [← receiveBit_responses b s]
  rfl

/-- An event does to the rest of the block what it does with any other receiver. -/
theorem raise_with_rx (ev : Event) (a : EventArg) (s : State) (r : RxState) :
    raise ev a { s with rx := r } = { raise ev a s with rx := r } := by
  have hother := raise_ignoresFramer ev a s s.tx r
  rw [State.withFramer, State.withFramer, ← raise_tx ev a s] at hother
  simpa using hother

/-- A received bit that raises one event, and leaves the receiver as given, does what the event's operation does. -/
theorem exec_rxBit_of_raise {i : Instr} {ev : Event} {a : EventArg} (hi : exec i = eventOp ev a) {b : Bool} {s : State}
    {r : RxState} (h : receiveBit b s = { raise ev a s with rx := r }) :
    ∃ u, exec i s = .next u ∧
      exec (.rxBit b) s = .next { u with rx := r, responses := s.responses ++ [.ok] } := by
  refine ⟨_, by rw [hi, eventOp_eq], ?_⟩
  rw [exec_rxBit, h]
  rfl

/-- A flag that closes a frame by one event opens the next one after it. -/
theorem receiveBit_of_closing_event {b : Bool} {s : State} (hflag : completesFlag b s) (hframe : s.rx.inFrame = true)
    {ev : Event} {a : EventArg} {run : Nat}
    (hclose : ∀ oc, closeFrame { s with rx := { s.rx with sr := 0x7E, ocBits := oc } } =
      raise ev a { s with rx := { s.rx with sr := 0x7E, ocBits := oc, flagRun := run } }) :
    receiveBit b s = { raise ev a s with rx := { afterFlag s.rx with flagRun := run } } := by
  rw [receiveBit_of_completesFlag hflag, closeOpenFrame, if_pos hframe, hclose, raise_with_rx]
  rfl

/-- The bit that completes an octet-count window is classified in what OCTET_COUNT_ERR's own operation leaves, whatever
that answered. -/
theorem exec_rxBit_of_window (b : Bool) {s : State} (hactive : s.rx.ocActive = true) (hfull : s.rx.ocBits = 127)
    (r : Response) :
    exec (.rxBit b) s = .next { classifyBit b { respond r (raise .octetCountErr EventArg.empty s) with
      rx := { s.rx with sr := shiftedIn b s.rx.sr, ocBits := 0 } } with responses := s.responses ++ [.ok] } := by
  have hanswer := (respond_besideReceiver r).commute_classifyBit b { raise .octetCountErr EventArg.empty s with
    rx := { s.rx with sr := shiftedIn b s.rx.sr, ocBits := 0 } }
  rw [exec_rxBit, receiveBit_of_window b hactive hfull, raise_with_rx]
  exact congrArg (fun v : State => Host.Outcome.next { v with responses := s.responses ++ [Response.ok] }) hanswer.symm

/-! ### The statements -/

/-- Settles O48, by what the shift register shows once the bit is counted. -/
theorem rxBitBetweenFlags : Obligations.RxBitBetweenFlags := by
  intro b s sr hwindow hflag
  have hexec : exec (.rxBit b) s = .next (respond .ok (receiveBit b s)) := rfl
  rw [hexec, receiveBit_of_no_window b hwindow]
  refine ⟨fun habort => ?_, fun hstuffed => ?_, fun habort hstuffed hframe => ?_,
    fun habort hstuffed hframe hroom => ?_⟩
  · rw [classifyBit_of_abort b (s := bitCounted b s) habort, abortReceived_eq]
    rfl
  · rw [classifyBit_of_stuffed b (s := bitCounted b s) hflag hstuffed]
    rfl
  · rw [classifyBit_of_hunting b (s := bitCounted b s) hflag habort hframe]
    rfl
  · rw [classifyBit_of_room b (s := bitCounted b s) hflag habort hstuffed hframe hroom]
    rfl

/-- Settles O49: the too-long frame's event is raised with the store already emptied, which it does not read. -/
theorem rxTooLongFrameIsBad : Obligations.RxTooLongFrameIsBad := by
  intro b s sr hwindow hflag habort hstuffed hframe hfull
  refine exec_rxBit_of_raise rfl ?_
  rw [receiveBit_of_no_window b hwindow, classifyBit_of_full b (s := bitCounted b s) hflag habort hstuffed hframe hfull]
  exact raise_with_rx _ _ s _

/-- Settles O50: the classification commutes with the answer of OCTET_COUNT_ERR's own operation, and then goes by the
shift register. -/
theorem rxOctetCountErrorAt128 : Obligations.RxOctetCountErrorAt128 := by
  intro b s sr hactive hfull
  have hparams := raise_params .octetCountErr EventArg.empty s
  refine ⟨_, eventOp_eq .octetCountErr EventArg.empty s, ?_⟩
  rw [exec_rxBit_of_window b hactive hfull
    (if (dispatch .octetCountErr EventArg.empty s).2 then .matched else .ignored)]
  refine ⟨rfl, fun habort => ?_, fun hflag habort hdropped => ?_, fun hflag habort hstuffed hframe hroom => ?_⟩
  · rw [classifyBit_of_abort b, abortReceived_eq]
    · simp only [hactive, if_true]
      rfl
    · exact habort
  · rcases hdropped with hstuffed | hframe
    · rw [classifyBit_of_stuffed b]
      exacts [rfl, hflag, hstuffed]
    · rw [classifyBit_of_hunting b]
      exacts [rfl, hflag, habort, hframe]
  · rw [classifyBit_of_room b]
    exacts [rfl, hflag, habort, hstuffed, hframe, hparams ▸ hroom]

/-- Settles O51: while hunting nothing is closed; otherwise the frame closed is empty, and reported at FLAG_LIMIT. -/
theorem rxFlagOpensFrame : Obligations.RxFlagOpensFrame := by
  intro b s hflag
  refine ⟨fun hframe => ?_, fun hframe hempty hsilent => ?_, fun hframe hempty hlimit hrun => ?_⟩
  · rw [exec_rxBit, receiveBit_of_completesFlag hflag, closeOpenFrame, if_neg (by simp [hframe])]
    rfl
  · rw [exec_rxBit, receiveBit_of_completesFlag hflag, closeOpenFrame, if_pos hframe, closeFrame_of_silent]
    exacts [rfl, hempty, hsilent]
  · exact exec_rxBit_of_raise rfl (receiveBit_of_closing_event hflag hframe fun _ =>
      closeFrame_of_limit hempty hlimit hrun)

/-- Settles O52: the one event raised is BAD_FRAME, with the run of empty frames restarted. -/
theorem rxBadFrameRaisesOneBadFrame : Obligations.RxBadFrameRaisesOneBadFrame := by
  intro b s hflag hframe hfilled hbad
  exact exec_rxBit_of_raise rfl (receiveBit_of_closing_event hflag hframe fun _ =>
    closeFrame_of_bad hfilled (frameOk_eq_false hbad))

end Sys2Proof.Machine
end

section
/-! SUPPORT. The equations of the sequencing component (43_sequencing.md), each under its own conditions, and the
numbers of a consecutive queue; then the statements about ENQUEUE, Select, Ack, Nack and AcceptMsu. -/

namespace Sys2Proof.Machine

/-! ### ENQUEUE (R310 to R313) -/

theorem exec_enqueue (sio : Byte) (data : List Byte) (s : State) :
    exec (.enqueue sio data) s = execEnqueue sio data s := rfl

theorem execEnqueue_of_not_inService (sio : Byte) (data : List Byte) {s : State} (hstate : s.state ≠ .inService) :
    execEnqueue sio data s = .next (respond (.enq .notInService) s) :=
  if_pos hstate

theorem execEnqueue_of_short (sio : Byte) {data : List Byte} {s : State} (hstate : s.state = .inService)
    (hshort : data.length < 2) : execEnqueue sio data s = .next (respond (.enq .tooShort) s) := by
  rw [execEnqueue, if_neg (not_not.mpr hstate), if_pos hshort]

theorem execEnqueue_of_full (sio : Byte) {data : List Byte} {s : State} (hstate : s.state = .inService)
    (hlong : ¬data.length < 2) (hfull : s.params.queueDepth ≤ s.queue.length) :
    execEnqueue sio data s = .next (respond (.enq .queueFull) s) := by
  rw [execEnqueue, if_neg (not_not.mpr hstate), if_neg hlong, if_pos hfull]

theorem execEnqueue_of_room (sio : Byte) {data : List Byte} {s : State} (hstate : s.state = .inService)
    (hlong : ¬data.length < 2) (hroom : ¬s.params.queueDepth ≤ s.queue.length) :
    execEnqueue sio data s =
      .next (respond (.enq (if s.params.txMaxData < data.length then .truncated else .accepted))
        (appendEntry sio (data.take s.params.txMaxData) s)) := by
  rw [execEnqueue, if_neg (not_not.mpr hstate), if_neg hlong, if_neg hroom]

/-! ### Select (R316, R317) -/

/-- Any entry at `tx_seq + 1` makes Select answer that number, whichever entry is the first to have it. -/
theorem select_of_queued {s : State} (hlen : s.queue.length < 128) (hqueued : ∃ e ∈ s.queue, e.seq = s.txSeq + 1) :
    ∃ m, (select s).1 = some m ∧ m.seq = s.txSeq + 1 ∧ (select s).2.txSeq = s.txSeq + 1 := by
  rcases select_cases s with ⟨-, hfull | hnone⟩ | ⟨pre, e, post, -, -, -, hseq, hselect⟩
  · omega
  · obtain ⟨e, he, hseq⟩ := hqueued
    exact absurd hseq (hnone e he)
  · rw [hselect]
    exact ⟨_, rfl, hseq, hseq⟩

/-! ### Ack (R320, R321) -/

theorem ackScan_append {bsn : Seq} {pre : List Entry} (hpre : ∀ x ∈ pre, x.transmitted = true ∧ x.seq ≠ bsn)
    {e : Entry} (hsent : e.transmitted = true) (hseq : e.seq = bsn) (post : List Entry) :
    ackScan bsn (pre ++ e :: post) = some post := by
  induction pre with
  | nil => simp [ackScan, hsent, hseq]
  | cons x pre ih =>
    obtain ⟨⟨hxsent, hxseq⟩, htail⟩ := List.forall_mem_cons.mp hpre
    simp [ackScan, hxsent, hxseq, ih htail]

theorem ack_of_scan_none {bsn : Seq} {s : State} (hscan : ackScan bsn s.queue = none) : ack bsn s = s := by
  rw [ack, hscan, Option.getD_none]

theorem ack_of_scan_some {bsn : Seq} {s : State} {post : List Entry} (hscan : ackScan bsn s.queue = some post) :
    ack bsn s = { s with queue := post } := by
  rw [ack, hscan, Option.getD_some]

/-- Ack frees nothing when every entry numbered BSN stands at or behind an entry not yet sent. -/
theorem ack_of_unreached {bsn : Seq} {s : State}
    (hunsent : ∀ (pre post : List Entry) (e : Entry), s.queue = pre ++ e :: post → e.seq = bsn →
      ∃ x ∈ pre ++ [e], x.transmitted = false) : ack bsn s = s := by
  rcases ackScan_cases bsn s.queue with hscan | ⟨pre, e, post, hqueue, hpre, hsent, hseq, -⟩
  · exact ack_of_scan_none hscan
  · obtain ⟨x, hx, hxunsent⟩ := hunsent pre post e hqueue hseq
    have hxsent : x.transmitted = true := by
      rcases List.mem_append.mp hx with hxpre | hxe
      · exact (hpre x hxpre).1
      · rwa [List.mem_singleton.mp hxe]
    simp [hxsent] at hxunsent

theorem ack_of_number_absent {bsn : Seq} {s : State} (habsent : ∀ e ∈ s.queue, e.seq ≠ bsn) : ack bsn s = s :=
  ack_of_unreached fun _ _ e hqueue hseq => absurd hseq (habsent e (by simp [hqueue]))

/-- In a consecutive queue numbers grow by the distance (10_state.md R45). -/
theorem consecutive.seq_eq_add {e x : Entry} {mid post : List Entry} (h : consecutive (e :: (mid ++ x :: post))) :
    x.seq = e.seq + BitVec.ofNat 7 (mid.length + 1) := by
  induction mid generalizing e with
  | nil => exact h.1
  | cons y mid ih =>
    obtain ⟨hnext, htail⟩ := h
    calc x.seq = e.seq + 1 + BitVec.ofNat 7 (mid.length + 1) := by rw [ih htail, hnext]
      _ = e.seq + BitVec.ofNat 7 (mid.length + 1 + 1) := by
        rw [BitVec.ofNat_add (mid.length + 1) 1, BitVec.add_assoc, BitVec.add_comm 1]
        rfl

/-- Within 128 entries the head's number comes once: a repeat would stand 128 places on. -/
theorem consecutive.head_seq_ne {e x : Entry} {q : List Entry} (h : consecutive (e :: q)) (hlen : q.length < 128)
    (hx : x ∈ q) : x.seq ≠ e.seq := by
  obtain ⟨mid, post, rfl⟩ := List.append_of_mem hx
  have hdistance : mid.length + 1 < 128 := by
    rw [List.length_append, List.length_cons] at hlen
    omega
  rw [h.seq_eq_add]
  bv_omega

/-! ### Nack (R322) -/

theorem nack_of_queued {bsn : Seq} (bib : Bool) {s : State}
    (hqueued : ∃ e ∈ s.queue, e.transmitted = true ∧ e.seq = bsn + 1) :
    nack bsn bib s = { s with txSeq := bsn, fib := bib } := by
  rcases nack_cases bsn bib s with ⟨-, hnack⟩ | ⟨habsent, -⟩
  · exact hnack
  · obtain ⟨e, he, hsent, hseq⟩ := hqueued
    exact absurd hseq (habsent e he hsent)

theorem nack_of_absent {bsn : Seq} (bib : Bool) {s : State}
    (habsent : ∀ e ∈ s.queue, e.transmitted = true → e.seq ≠ bsn + 1) : nack bsn bib s = s := by
  rcases nack_cases bsn bib s with ⟨⟨e, he, hsent, hseq⟩, -⟩ | ⟨-, hnack⟩
  · exact absurd hseq (habsent e he hsent)
  · exact hnack

/-! ### AcceptMsu (R326) -/

theorem acceptMsu_of_expected {a : EventArg} {s : State} (hfib : a.fib = s.bib) (hfsn : a.fsn = s.rxSeq + 1) :
    acceptMsu a s = indicate (.data a.sio a.data) { s with rxSeq := a.fsn } :=
  if_pos ⟨hfsn, hfib⟩

theorem acceptMsu_of_gap {a : EventArg} {s : State} (hfib : a.fib = s.bib) (hfsn : a.fsn ≠ s.rxSeq + 1)
    (hnew : a.fsn ≠ s.rxSeq) : acceptMsu a s = { s with txNack := true } := by
  rw [acceptMsu, if_neg fun h => hfsn h.1, if_pos ⟨hnew, hfib⟩]

/-- A repeat is not the expected number, which is one further on. -/
theorem acceptMsu_of_repeat {a : EventArg} {s : State} (hfsn : a.fsn = s.rxSeq) : acceptMsu a s = s := by
  have hunexpected : a.fsn ≠ s.rxSeq + 1 := by
    rw [hfsn]
    bv_omega
  rw [acceptMsu, if_neg fun h => hunexpected h.1, if_neg fun h => h.1 hfsn]

theorem acceptMsu_of_fib_ne {a : EventArg} {s : State} (hfib : a.fib ≠ s.bib) : acceptMsu a s = s := by
  rw [acceptMsu, if_neg fun h => hfib h.2, if_neg fun h => hfib h.2]

/-! ### The statements -/

/-- Settles O55, check by check. -/
theorem enqueueOutcomes : Obligations.EnqueueOutcomes := by
  intro sio data s
  rw [exec_enqueue]
  split
  case isTrue hstate => exact execEnqueue_of_not_inService sio data hstate
  case isFalse hstate =>
    have hserving : s.state = .inService := not_not.mp hstate
    split
    case isTrue hshort => exact execEnqueue_of_short sio hserving hshort
    case isFalse hlong =>
      split
      case isTrue hfull => exact execEnqueue_of_full sio hserving hlong hfull
      case isFalse hroom => exact execEnqueue_of_room sio hserving hlong hroom

/-- Settles O56, by the two equations of Select. -/
theorem selectTakesNextInSequence : Obligations.SelectTakesNextInSequence :=
  ⟨fun _ hnone => select_of_none_due hnone, fun _ _ _ _ hqueue hlen hpre he => select_of_due hqueue hlen hpre he⟩

/-- Settles O57: the scan ends at the entry, or without a match. -/
theorem ackFreesThroughMatch : Obligations.AckFreesThroughMatch :=
  ⟨fun _ _ _ post _ hqueue hpre hsent hseq =>
      ack_of_scan_some (hqueue ▸ ackScan_append hpre hsent hseq post),
    fun _ _ hunsent => ack_of_unreached hunsent⟩

/-- Settles O58: what the first Ack leaves follows the acknowledged entry, whose number comes once. -/
theorem ackTwiceIsAckOnce : Obligations.AckTwiceIsAckOnce := by
  intro s bsn hconsecutive hlen
  rcases ackScan_cases bsn s.queue with hscan | ⟨pre, e, post, hqueue, -, -, hseq, hscan⟩
  · rw [ack_of_scan_none hscan, ack_of_scan_none hscan]
  · rw [ack_of_scan_some hscan]
    refine ack_of_number_absent fun x hx => ?_
    have hmatched : consecutive (e :: post) := (hqueue ▸ hconsecutive).right_of_append
    have hpost : post.length < 128 := by
      simp only [hqueue, List.length_append, List.length_cons] at hlen
      omega
    exact hseq ▸ hmatched.head_seq_ne hpost hx

/-- Settles O59: Nack keeps the queue, so the entry it found is the next one due. -/
theorem nackForcesRetransmission : Obligations.NackForcesRetransmission := by
  refine ⟨fun _ _ _ => rfl, fun s bsn bib hqueued => ?_, fun _ _ bib habsent => nack_of_absent bib habsent⟩
  rw [nack_of_queued bib hqueued]
  obtain ⟨e, he, -, hseq⟩ := hqueued
  exact ⟨rfl, fun hlen => select_of_queued hlen ⟨e, he, hseq⟩⟩

/-- Settles O60, by the four equations of AcceptMsu. -/
theorem msuAcceptance : Obligations.MsuAcceptance := by
  intro a s
  exact ⟨acceptMsu_of_expected, acceptMsu_of_gap, fun _ hfsn => acceptMsu_of_repeat hfsn, acceptMsu_of_fib_ne⟩

end Sys2Proof.Machine
end

section
/-! SUPPORT. The bad-frame side of the error monitors by its equations (44_error_monitor.md R350 to R353, R356), and a
run of bad frames in service up to the threshold; then the statements about BAD_FRAME and OCTET_COUNT_ERR. -/

namespace Sys2Proof.Machine

/-! ### One bad event -/

/-- A bad event in PROVING aborts the proving at Ti (R352, R353); row 15 then clears the count. -/
theorem provingBad_eq {s : State} (hs : s.state = .proving) :
    provingBad s =
      if (if s.localEmergency || s.remoteEmergency then 1 else 4) ≤ s.provingErrors + 1 then abortProving s
      else { s with provingErrors := s.provingErrors + 1 } := by
  rw [← abortProving_with_provingErrors s (s.provingErrors + 1), ← raiseFromMonitor_abortProving (by exact hs)]
  rfl

/-- A bad event in service restarts the good run, and fails the link at T (R356). -/
theorem inServiceBad_eq {s : State} (hs : s.state.inServiceGroup = true) :
    inServiceBad s =
      if 16 ≤ s.monitorErrors + 1 then fail .linkFailureLocal s
      else { s with monitorGood := 0, monitorErrors := s.monitorErrors + 1 } := by
  have hfail : raiseFromMonitor .linkFailure { s with monitorGood := 0, monitorErrors := s.monitorErrors + 1 } =
      fail .linkFailureLocal s := raiseFromMonitor_linkFailure (by exact hs)
  rw [← hfail]
  rfl

/-- IGNORE_MONITOR comes before the choice of the monitor (R350, R351). -/
theorem monitorBadHook_eq (s : State) :
    monitorBadHook s =
      if s.ignoreMonitor then s
      else if s.state = .proving then provingBad s
      else if s.state.inServiceGroup then inServiceBad s else s := by
  unfold monitorBadHook
  cases s.ignoreMonitor <;> simp

/-- The bad events match no row, so the monitor is all there is of them, and the answer is that of an ignored event. -/
theorem exec_badEvent {i : Instr} (hi : i ∈ [Instr.eventBadFrame, .eventOctetCountErr]) (s : State) :
    exec i s = .next (respond .ignored (monitorBadHook s)) := by
  simp only [List.mem_cons, List.not_mem_nil, or_false] at hi
  rcases hi with rfl | rfl
  · exact eventOp_of_no_row rfl ((matchingRow_eq_none_iff .badFrame _).2 rfl)
  · exact eventOp_of_no_row rfl ((matchingRow_eq_none_iff .octetCountErr _).2 rfl)

/-- Settles O38, monitor by monitor. -/
theorem badEventsReachTheThresholds : Obligations.BadEventsReachTheThresholds := by
  intro s i hi
  rw [exec_badEvent hi, monitorBadHook_eq]
  by_cases hignore : s.ignoreMonitor = true
  · rw [if_pos hignore, if_pos hignore, respond]
  rw [if_neg hignore, if_neg hignore]
  by_cases hproving : s.state = .proving
  · rw [if_pos hproving, if_pos hproving, provingBad_eq hproving, abortProving_eq, apply_ite (respond .ignored),
      apply_ite (respond .ignored)]
    rfl
  rw [if_neg hproving, if_neg hproving]
  by_cases hgroup : s.state.inServiceGroup = true
  · rw [if_pos hgroup, if_pos hgroup, inServiceBad_eq hgroup, apply_ite (respond .ignored)]
    rfl
  · rw [if_neg hgroup, if_neg hgroup, respond]

/-! ### A run of bad frames in service -/

/-- The state after `n` bad frames in service that stay below the threshold. -/
def badFramesCounted (n : Nat) (s : State) : State :=
  { s with
    monitorGood := 0, monitorErrors := s.monitorErrors + n, responses := s.responses ++ List.replicate n .ignored }

theorem badFramesCounted_succ (n : Nat) (s : State) :
    badFramesCounted (n + 1) s = badFramesCounted 1 (badFramesCounted n s) := by
  simp [badFramesCounted, List.replicate_succ', Nat.add_assoc]

theorem exec_badFrame_in_service {s : State} (hgroup : s.state.inServiceGroup = true)
    (hmonitor : s.ignoreMonitor = false) :
    exec .eventBadFrame s =
      .next (if 16 ≤ s.monitorErrors + 1 then respond .ignored (fail .linkFailureLocal s)
        else badFramesCounted 1 s) := by
  have hproving : s.state ≠ .proving := fun h => absurd (h ▸ hgroup) nofun
  rw [exec_badEvent (.head _), monitorBadHook_eq, if_neg (Bool.eq_false_iff.1 hmonitor), if_neg hproving, if_pos hgroup,
    inServiceBad_eq hgroup, apply_ite (respond .ignored)]
  rfl

/-- Bad frames below the threshold are counted, one by one. -/
theorem execAll_badFrames_below {s : State} (hgroup : s.state.inServiceGroup = true)
    (hmonitor : s.ignoreMonitor = false) (n : Nat) (hbelow : s.monitorErrors + (n + 1) < 16) :
    execAll (List.replicate (n + 1) .eventBadFrame) s = .next (badFramesCounted (n + 1) s) := by
  induction n with
  | zero =>
    refine (execAll_cons_of_next (exec_badFrame_in_service hgroup hmonitor) []).trans ?_
    rw [if_neg (Nat.not_le.2 hbelow)]
    rfl
  | succ n ih =>
    have hnext := exec_badFrame_in_service (s := badFramesCounted (n + 1) s) hgroup hmonitor
    have hlow : ¬16 ≤ (badFramesCounted (n + 1) s).monitorErrors + 1 := Nat.not_le.2 hbelow
    rw [if_neg hlow, ← badFramesCounted_succ] at hnext
    rw [List.replicate_succ', execAll_append_of_next (ih (by omega))]
    exact execAll_cons_of_next hnext []

/-- Settles O39: fifteen frames are counted, and the sixteenth reaches the threshold. -/
theorem sixteenBadFramesFailTheLink : Obligations.SixteenBadFramesFailTheLink := by
  intro s hgroup hmonitor hzero
  have hfifteen := execAll_badFrames_below hgroup hmonitor 14 (by omega)
  have hlast := exec_badFrame_in_service (s := badFramesCounted 15 s) hgroup hmonitor
  rw [if_pos (by simp [badFramesCounted, hzero])] at hlast
  constructor
  · rw [hfifteen, badFramesCounted, hzero]
  · rw [List.replicate_succ' (n := 15), execAll_append_of_next hfifteen, execAll_cons_of_next hlast,
      List.replicate_succ' (n := 15), ← List.append_assoc]
    rfl

end Sys2Proof.Machine
end

section
/-! SUPPORT. The tick at which no timer expires (45_timers.md R370): the decrement timer by timer, and the expiries that
then do nothing. -/

namespace Sys2Proof.Machine

theorem Timer.tick_eq (t : Timer) : t.tick = if t.armed then ⟨true, t.count - 1⟩ else t := by
  rw [Timer.tick]
  split
  · next harmed => rw [harmed]
  · rfl

/-- A timer with at least 2 to count is not due after one decrement. -/
theorem Timer.tick_not_due {t : Timer} (h : t.armed = true → 2 ≤ t.count) :
    ¬(t.tick.armed = true ∧ t.tick.count = 0) := by
  rw [Timer.tick]
  split
  · next harmed =>
    exact fun hdue => Nat.sub_ne_zero_of_lt (h harmed) hdue.2
  · next hoff => exact fun hdue => hoff hdue.1

theorem getTimer_decrementTimers (n : TimerId) (s : State) :
    getTimer n (decrementTimers s) = (getTimer n s).tick := by
  cases n <;> rfl

/-- A timer that is not due does not expire. -/
theorem expireTimer_of_not_due {n : TimerId} {s : State}
    (h : ¬((getTimer n s).armed = true ∧ (getTimer n s).count = 0)) : expireTimer n s = s :=
  if_neg h

/-- Where every armed timer holds at least 2, a tick is its decrements alone. -/
theorem tickTimers_of_none_due {s : State} (h : ∀ n, (getTimer n s).armed = true → 2 ≤ (getTimer n s).count) :
    tickTimers s = decrementTimers s := by
  have hkeep (n : TimerId) : expireTimer n (decrementTimers s) = decrementTimers s := by
    refine expireTimer_of_not_due ?_
    rw [getTimer_decrementTimers]
    exact Timer.tick_not_due (h n)
  rw [tickTimers, hkeep .t1, hkeep .t2, hkeep .t3, hkeep .t4]

/-- Settles O40: no timer is due after the decrements, so the tick is the decrements and the answer. -/
theorem tickCountsArmedTimersDown : Obligations.TickCountsArmedTimersDown := by
  intro s h
  rw [exec, execTimerTick, tickTimers_of_none_due h, decrementTimers]
  simp only [Timer.tick_eq]
  rfl

end Sys2Proof.Machine
end

section
/-! SUPPORT. How often an operation fails (60_exceptions.md R407, R408): rows, monitors and events report at most one
failure, entering OUT_OF_SERVICE from another state, and none but START leaves it; so the events of one operation report
at most one together. -/

namespace Sys2Proof.Machine

/-! ### The failures on record (10_state.md R58) -/

/-- The failures reported so far: the OUT_OF_SERVICE indications in `ind_out`. -/
def failures (s : State) : Nat := failuresAfter 0 s

theorem failures_of_indOut {s t : State} (h : t.indOut = s.indOut) : failures t = failures s := by
  simp only [failures, failuresAfter, h]

/-- OUT_OF_SERVICE is kind 1 (30_encoding.md R125). -/
theorem failures_indicate (x : Indication) (s : State) :
    failures (indicate x s) = failures s + if x.kind = 1 then 1 else 0 := by
  cases x <;> simp [failures, failuresAfter, Indication.kind]

theorem failures_fail (c : Cause) (s : State) : failures (fail c s) = failures s + 1 :=
  failures_indicate (.outOfService c) (stop s)

/-- What an operation reported is what it added to the record. -/
theorem failures_of_prefix {s t : State} (h : s.indOut <+: t.indOut) :
    failures t = failures s + failuresAfter s.indOut.length t := by
  obtain ⟨new, hnew⟩ := h
  simp [failures, failuresAfter, ← hnew]

theorem seqRxFisu_failures (a : EventArg) (s : State) : failures (seqRxFisu a s) = failures s := by
  refine failures_of_indOut ?_
  unfold seqRxFisu ackOrNack nack
  split
  · rfl
  · split <;> rfl

theorem acceptMsu_failures (a : EventArg) (s : State) : failures (acceptMsu a s) = failures s := by
  unfold acceptMsu
  split
  · exact failures_indicate (.data a.sio a.data) _
  · split <;> rfl

theorem seqRxMsu_failures (a : EventArg) (s : State) : failures (seqRxMsu a s) = failures s :=
  (acceptMsu_failures a _).trans (seqRxFisu_failures a s)

theorem linkUp_failures (st : LinkState) (s : State) : failures (linkUp st s) = failures s :=
  failures_indicate .inService _

theorem remoteRecoveryCheck_failures (s : State) : failures (remoteRecoveryCheck s) = failures s := by
  unfold remoteRecoveryCheck
  split
  · split
    · rfl
    · exact failures_indicate .remoteProcessorRecovered _
  · rfl

/-! ### At most one failure, on entering OUT_OF_SERVICE -/

/-- From `s` to `t` no failure is reported, or one with OUT_OF_SERVICE entered from another state. -/
inductive ReportsAtMostOne (s t : State) : Prop
  | none (hcount : failures t = failures s)
  | one (hcount : failures t = failures s + 1) (hbefore : s.state ≠ .outOfService) (hafter : t.state = .outOfService)

theorem ReportsAtMostOne.respond {s t : State} (h : ReportsAtMostOne s t) (r : Response) :
    ReportsAtMostOne s (respond r t) := by
  cases h with
  | none hcount => exact .none hcount
  | one hcount hbefore hafter => exact .one hcount hbefore hafter

/-- From `s` to `t` at most one failure is reported, and OUT_OF_SERVICE is not left (R408). -/
structure FailsOnce (s t : State) : Prop where
  reports : ReportsAtMostOne s t
  stays : s.state = .outOfService → t.state = .outOfService

theorem FailsOnce.of_same {s t : State} (hind : t.indOut = s.indOut) (hstate : t.state = s.state) : FailsOnce s t :=
  ⟨.none (failures_of_indOut hind), hstate.trans⟩

/-- After a failure the state is OUT_OF_SERVICE, from which there is no second one. -/
theorem FailsOnce.trans {s t u : State} (h : FailsOnce s t) (h' : FailsOnce t u) : FailsOnce s u where
  reports := by
    cases h.reports with
    | none hcount =>
      cases h'.reports with
      | none hcount' => exact .none (hcount'.trans hcount)
      | one hcount' hbefore hafter => exact .one (hcount ▸ hcount') (mt h.stays hbefore) hafter
    | one hcount hbefore hafter =>
      cases h'.reports with
      | none hcount' => exact .one (hcount'.trans hcount) hbefore (h'.stays hafter)
      | one _ hbefore' => exact absurd hafter hbefore'
  stays := h'.stays ∘ h.stays

/-! ### Rows, monitors and events (40_fsm.md R141, R143) -/

theorem abortProving_reports {s : State} (hs : s.state = .proving) : ReportsAtMostOne s (abortProving s) := by
  unfold abortProving
  dsimp only
  split
  · exact .one (failures_fail _ _) (by simp [hs]) rfl
  · exact .none rfl

theorem provingComplete_failures (s : State) : failures (provingComplete s) = failures s := by
  refine failures_of_indOut ?_
  rcases provingComplete_cases s with ⟨-, he⟩ | ⟨-, he⟩ <;> rw [he] <;> rfl

/-- Only the failure action and a fifth aborted proving report a failure; neither applies in OUT_OF_SERVICE. -/
theorem RowEffect.reports {a : EventArg} {s t : State} (e : RowEffect a s t) : ReportsAtMostOne s t := by
  cases e with
  | fail _ hin c => exact .one (failures_fail c s) hin rfl
  | abortProving hs => exact abortProving_reports hs
  | provingComplete => exact .none (provingComplete_failures s)
  | remoteOutageBegins => exact .none (failures_indicate .remoteProcessorOutage _)
  | remoteOutageRecorded =>
    unfold Machine.remoteOutageRecorded
    split
    · exact .none rfl
    · exact .none (failures_indicate .remoteProcessorOutage _)
  | fisuReady | fisuNotReady => exact .none ((seqRxFisu_failures a _).trans (linkUp_failures _ s))
  | msuReady | msuNotReady => exact .none ((seqRxMsu_failures a _).trans (linkUp_failures _ s))
  | fisu => exact .none (seqRxFisu_failures a s)
  | msu => exact .none (seqRxMsu_failures a s)
  | fisuOutage => exact .none ((seqRxFisu_failures a _).trans (remoteRecoveryCheck_failures s))
  | msuOutage => exact .none ((seqRxMsu_failures a _).trans (remoteRecoveryCheck_failures s))
  | recovered =>
    unfold localOutageEnds
    dsimp only
    split
    · exact .none rfl
    · exact .none (failures_indicate .remoteProcessorRecovered _)
  | stop | emergency | start | enterAligned | enterProving | correctSu | outageReady | outageService | recoveredNotReady
  | outageRecorded | recoveryRecorded => exact .none rfl

theorem searchTable_reports (ev : Event) (a : EventArg) (s : State) : ReportsAtMostOne s (searchTable ev a s).1 := by
  rcases searchTable_effect ev a s with he | he
  · exact .none (congrArg failures he)
  · exact he.reports

/-- The rows of OUT_OF_SERVICE are 1 to 5, 40 and 41, and only row 5, START, leaves it (R211). -/
theorem searchTable_of_outOfService {ev : Event} (hev : ev ≠ .start) (a : EventArg) {s : State}
    (hs : s.state = .outOfService) : (searchTable ev a s).1.state = .outOfService := by
  rw [searchTable_eq, hs]
  cases ev with
  | start => exact absurd rfl hev
  | powerOn | stop => rfl
  | _ => exact hs

theorem searchTable_failsOnce {ev : Event} (hev : ev ≠ .start) (a : EventArg) (s : State) :
    FailsOnce s (searchTable ev a s).1 :=
  ⟨searchTable_reports ev a s, searchTable_of_outOfService hev a⟩

/-- A monitor counts, and may then raise an event that is not START (44_error_monitor.md R352, R355, R356). -/
theorem monitorHook_failsOnce (ev : Event) (s : State) : FailsOnce s (monitorHook ev s) := by
  rcases monitorHook_cases ev s with he | ⟨-, -, -, he⟩ | ⟨-, -, -, he⟩ | ⟨-, -, -, he⟩ <;> rw [he]
  · exact .of_same rfl rfl
  · unfold inServiceGood
    split <;> exact .of_same rfl rfl
  · unfold provingBad raiseFromMonitor
    dsimp only
    split
    · refine FailsOnce.trans ?_ (searchTable_failsOnce (ev := .abortProving) nofun _ _)
      exact .of_same rfl rfl
    · exact .of_same rfl rfl
  · unfold inServiceBad raiseFromMonitor
    dsimp only
    split
    · refine FailsOnce.trans ?_ (searchTable_failsOnce (ev := .linkFailure) nofun _ _)
      exact .of_same rfl rfl
    · exact .of_same rfl rfl

/-- Every event but START; a failure of its monitor leaves it no row that fails again. -/
theorem raise_failsOnce {ev : Event} (hev : ev ≠ .start) (a : EventArg) (s : State) : FailsOnce s (raise ev a s) :=
  (monitorHook_failsOnce ev s).trans (searchTable_failsOnce hev a _)

/-! ### Operations -/

/-- The events one received bit raises fail once together (42_framer_rx.md R270). -/
theorem receiveBit_failsOnce (b : Bool) (s : State) : FailsOnce s (receiveBit b s) := by
  refine receiveBit_keeps (P := FailsOnce s) (fun _ _ hu => hu.trans (.of_same rfl rfl)) (fun ev hmem a u hu => ?_) b
    (.of_same rfl rfl)
  have hev : ev ≠ .start := by
    rintro rfl
    exact absurd hmem (by decide)
  exact hu.trans (raise_failsOnce hev a u)

theorem expireTimer_failsOnce (n : TimerId) (s : State) : FailsOnce s (expireTimer n s) := by
  rcases expireTimer_cases n s with he | ⟨-, -, he⟩ <;> rw [he]
  · exact .of_same rfl rfl
  · exact FailsOnce.trans (.of_same (setTimer_indOut n _ s) (setTimer_state n _ s))
      (raise_failsOnce (by cases n <;> decide) _ _)

/-- The expiries of one tick fail once together (45_timers.md R370). -/
theorem tickTimers_failsOnce (s : State) : FailsOnce s (tickTimers s) :=
  FailsOnce.trans (t := decrementTimers s) (.of_same rfl rfl)
    ((expireTimer_failsOnce .t1 _).trans ((expireTimer_failsOnce .t2 _).trans
      ((expireTimer_failsOnce .t3 _).trans (expireTimer_failsOnce .t4 _))))

theorem eventOp_failsOnce {ev : Event} {a : EventArg} {s t : State} (he : eventOp ev a s = .next t)
    (hev : ev ≠ .start) : FailsOnce s t := by
  cases he
  exact (raise_failsOnce hev a s).trans (.of_same rfl rfl)

/-- Every operation but START. -/
theorem exec_failsOnce {s t : State} {i : Instr} (hi : i ≠ .eventStart) (he : exec i s = .next t) :
    FailsOnce s t := by
  cases i with
  | rxBit b => cases he; exact (receiveBit_failsOnce b s).trans (.of_same rfl rfl)
  | txBit =>
    cases he
    have hframe := sendBit_sendFrame s
    exact .of_same hframe.indOut hframe.state
  | timerTick => cases he; exact (tickTimers_failsOnce s).trans (.of_same rfl rfl)
  | nop | reservedOp6 | reservedOp7 | reservedOp8 | reservedOp9 | reservedOpA | reservedOpB | reservedOpC | reservedOpD
  | reservedOpE | reservedOpF => cases he; exact .of_same rfl rfl
  | enqueue sio data =>
    rcases execEnqueue_cases sio data s with ⟨c, hq⟩ | ⟨-, -, -, c, hq⟩
    all_goals
      obtain rfl := Host.Outcome.next.inj (hq.symm.trans he)
      exact .of_same rfl rfl
  | eventStart => exact absurd rfl hi
  | _ => exact eventOp_failsOnce he nofun

/-- Every operation, START too, reports at most one failure. -/
theorem exec_reports {s t : State} {i : Instr} (he : exec i s = .next t) : ReportsAtMostOne s t := by
  by_cases hi : i = .eventStart
  · subst hi
    cases he
    exact (searchTable_reports .start EventArg.empty s).respond _
  · exact (exec_failsOnce hi he).reports

theorem exec_indOut_prefix {s t : State} {i : Instr} (he : exec i s = .next t) : s.indOut <+: t.indOut := by
  obtain ⟨r, u, hu, hu'⟩ := exec_effect i s
  obtain rfl : respond r u = t := Host.Outcome.next.inj (hu'.symm.trans he)
  exact hu.indOut_prefix

/-- Settles O15: a failure is reported on entering OUT_OF_SERVICE only, which no event but START leaves. -/
theorem atMostOneFailureAndOnlyStartLeavesOos : Obligations.AtMostOneFailureAndOnlyStartLeavesOos := by
  intro s t i he
  have hreported := failures_of_prefix (exec_indOut_prefix he)
  have hleave (hs : s.state = .outOfService) (ht : t.state ≠ .outOfService) : i = .eventStart := by
    by_contra hi
    exact ht ((exec_failsOnce hi he).stays hs)
  cases exec_reports he with
  | none hcount => exact ⟨by omega, by omega, hleave⟩
  | one hcount _ hafter => exact ⟨by omega, fun _ => hafter, hleave⟩

end Sys2Proof.Machine
end
